-- ==== Sys2Proof/Word.lean ====
section
/-! DEFINITION. Word.lean: the value types of R8 and R9. Every value is unsigned; bit 0 is the least significant bit. -/

namespace Sys2Proof

/-- `u8` (R9): a frame byte, an opcode, a response code. -/
abbrev Byte := BitVec 8

/-- `u16` (R9): a decoded word, a checksum. -/
abbrev Word := BitVec 16

/-- `u7` (R9, R22): an address of the bus device space. -/
abbrev BusAddr := BitVec 7

end Sys2Proof
end

