-- ==== Sys2Proof/Config.lean ====
section
/-! DEFINITION. Config.lean: the parameters of R7, each at this hardware's value, and the one free value of the model. -/

namespace Sys2Proof

/-- `FRAME_LEN` (R7): bytes per frame and per bus transaction. -/
def Config.frameLen : Nat := 32

/-- `SYNC0` (R7): the required value of frame byte 0. -/
def Config.sync0 : Byte := 0x42

/-- `SYNC1` (R7): the required value of frame byte 1. -/
def Config.sync1 : Byte := 0x4D

/-- `SUM_LEN` (R7): how many leading bytes the checksum sums. -/
def Config.sumLen : Nat := 30

/-- `DEV_ADDR` (R7, D17, OPEN-2): the bus address CREATE gives an instance; `0x12` for this hardware. The parametric machine
(`Machine.coreAt`) takes the address as an argument; this value is where `exec`, `step` and `core` stand. -/
def Config.devAddr : BusAddr := 0x12

/-- FREE VALUE (log entry 3): what `dev_addr` holds after a RELEASE. R35 calls it unspecified whenever `life != ACTIVE`,
and 93 A8 gives the treatment `any value`. There is no body, so no proof can see a value. The argument is the model's
counter of such draws. -/
opaque Config.unspecifiedDevAddr : Nat → BusAddr

end Sys2Proof
end

