-- ==== Sys2Proof/Syntax.lean ====
section
/-! DEFINITION. Syntax.lean: what a host sends (a command: opcode and operand, R80) and what it means as syntax (`Instr`,
one constructor per row of spec/opcode_table.json, R81). -/

namespace Sys2Proof

/-- An opaque transport handle (R23, R80). The core never inspects it.
DESIGN CHOICE (log entry 5): a number stands for the handle's identity. -/
structure Token where
  id : Nat
deriving DecidableEq, Repr

/-- A frame (R8, R85): exactly 32 bytes, offset 0 first. -/
abbrev Frame := Vector Byte 32

/-- The all-zero frame: the "zero-initialized buffer" of R25 and R232. -/
def Frame.zero : Frame := Vector.replicate 32 0

/-- What travels with an opcode (R80). A token is no byte string (95 L3), so the two are different alternatives. -/
inductive Operand where
  | nothing
  | token (t : Token)
  | bytes (bs : List Byte)
deriving DecidableEq, Repr

/-- A command as the host issues it (R80, format `C8`): one opcode byte and the operand the host passes with it, whether
or not the two fit. -/
structure Command where
  op      : Byte
  operand : Operand
deriving DecidableEq, Repr

/-- The 19 mnemonics of R81. -/
inductive Op where
  | create | release | read
  | validate | chksync | chksum
  | decode
  | decPm1 | decPm2_5 | decPm10
  | decEnvPm1 | decEnvPm2_5 | decEnvPm10
  | decPc0_3 | decPc0_5 | decPc1 | decPc2_5 | decPc5 | decPc10
deriving DecidableEq, Repr

/-- A command whose opcode is assigned and whose operand has the shape R80 asks for: one constructor per opcode. A frame
operand is a `Frame`, so an instruction with 31 bytes cannot be written; such a command is turned away by the decoder. -/
inductive Instr where
  | create (token : Token)
  | release
  | read
  | validate (frameIn : Frame)
  | chksync (frameIn : Frame)
  | chksum (frameIn : Frame)
  | decode (frameIn : Frame)
  | decPm1 (frameIn : Frame)
  | decPm2_5 (frameIn : Frame)
  | decPm10 (frameIn : Frame)
  | decEnvPm1 (frameIn : Frame)
  | decEnvPm2_5 (frameIn : Frame)
  | decEnvPm10 (frameIn : Frame)
  | decPc0_3 (frameIn : Frame)
  | decPc0_5 (frameIn : Frame)
  | decPc1 (frameIn : Frame)
  | decPc2_5 (frameIn : Frame)
  | decPc5 (frameIn : Frame)
  | decPc10 (frameIn : Frame)
deriving DecidableEq, Repr

/-- Why a command spells no instruction (R195): the two reasons that do not depend on the instance's state. -/
inductive Reject where
  /-- The opcode is not in R81's table (R93). -/
  | unassignedOpcode
  /-- The operand does not have the shape R80 asks for (R82). -/
  | malformedOperand
deriving DecidableEq, Repr

end Sys2Proof
end

