-- ==== Sys2Proof/WellFormed.lean ====
section
/-! DEFINITION. WellFormed.lean: which commands have a meaning at all (R80, R82, R93): an assigned opcode, and an operand
of the shape its class asks for. Instructions are well formed by their type, so the checks are on commands. -/

namespace Sys2Proof

/-- The shape of operand an opcode class takes (R80). -/
inductive OperandShape where
  | nothing
  | token
  | frame
deriving DecidableEq, Repr

/-- The assigned opcode values (R81). -/
def assignedOpcodes : List Byte :=
  [0x01, 0x02, 0x03, 0x10, 0x11, 0x12, 0x20,
   0x30, 0x31, 0x32, 0x33, 0x34, 0x35, 0x36, 0x37, 0x38, 0x39, 0x3A, 0x3B]

/-- R80's table of opcode classes, for an assigned opcode: CREATE takes a token, RELEASE and READ take nothing, every
other command takes a frame. -/
def shapeOfOpcode (op : Byte) : OperandShape :=
  if op = 0x01 then .token
  else if op = 0x02 ∨ op = 0x03 then .nothing
  else .frame

/-- Does an operand have the shape (R80, R82)? A frame operand has exactly 32 bytes. -/
def Operand.fits : Operand → OperandShape → Bool
  | .nothing, .nothing => true
  | .token _, .token => true
  | .bytes bs, .frame => bs.length == Config.frameLen
  | .nothing, .token => false
  | .nothing, .frame => false
  | .token _, .nothing => false
  | .token _, .frame => false
  | .bytes _, .nothing => false
  | .bytes _, .token => false

/-- The opcode is one of R81's. -/
def Command.opAssigned (c : Command) : Bool := assignedOpcodes.contains c.op

/-- The operand has the shape the opcode's class asks for. -/
def Command.operandFits (c : Command) : Bool := c.operand.fits (shapeOfOpcode c.op)

/-- A command that spells an instruction. -/
def Command.wellFormed (c : Command) : Bool := c.opAssigned && c.operandFits

end Sys2Proof
end

