-- ==== Sys2Proof/Decode.lean ====
section
/-! DEFINITION. Decode.lean: the decoder (R82), total on every command and rejecting by name; the encoder, written from
the same opcode map (R81); the flat form of a frame (R92); the written form of a command (R91). -/

namespace Sys2Proof

/-! ### The opcode map -/

/-- One row of R81's opcode map. -/
structure OpcodeRow where
  mask  : Byte
  value : Byte
  op    : Op
deriving DecidableEq, Repr

/-- R81's opcode map; every row is an exact match, mask `0xFF` (R82). -/
def opcodeTable : List OpcodeRow :=
  [⟨0xFF, 0x01, .create⟩, ⟨0xFF, 0x02, .release⟩, ⟨0xFF, 0x03, .read⟩,
   ⟨0xFF, 0x10, .validate⟩, ⟨0xFF, 0x11, .chksync⟩, ⟨0xFF, 0x12, .chksum⟩,
   ⟨0xFF, 0x20, .decode⟩] ++
  [⟨0xFF, 0x30, .decPm1⟩, ⟨0xFF, 0x31, .decPm2_5⟩, ⟨0xFF, 0x32, .decPm10⟩,
   ⟨0xFF, 0x33, .decEnvPm1⟩, ⟨0xFF, 0x34, .decEnvPm2_5⟩, ⟨0xFF, 0x35, .decEnvPm10⟩,
   ⟨0xFF, 0x36, .decPc0_3⟩, ⟨0xFF, 0x37, .decPc0_5⟩, ⟨0xFF, 0x38, .decPc1⟩,
   ⟨0xFF, 0x39, .decPc2_5⟩, ⟨0xFF, 0x3A, .decPc5⟩, ⟨0xFF, 0x3B, .decPc10⟩]

/-- Does a row select this opcode byte? -/
def OpcodeRow.selects (r : OpcodeRow) (b : Byte) : Bool := b &&& r.mask == r.value

/-- The command an opcode byte selects, none for an unassigned byte (R82, R93). -/
def opOfByte (b : Byte) : Option Op := (opcodeTable.find? (·.selects b)).map (·.op)

/-! ### Operands -/

/-- A byte string as a frame: only one of exactly 32 bytes is one (R82); byte `i` is at offset `i` (R83). -/
def Frame.ofBytes (bs : List Byte) : Option Frame :=
  if h : bs.length = 32 then some ⟨bs.toArray, by simp [h]⟩ else none

/-- CREATE's operand (R80): a token. -/
def tokenOperand : Operand → Except Reject Token
  | .token t => .ok t
  | .nothing => .error .malformedOperand
  | .bytes _ => .error .malformedOperand

/-- The operand of RELEASE and READ (R80): none.
DEDUCED (log entry 8): R82 refuses an operand where R80 asks for none. -/
def noOperand (i : Instr) : Operand → Except Reject Instr
  | .nothing => .ok i
  | .token _ => .error .malformedOperand
  | .bytes _ => .error .malformedOperand

/-- The operand of the frame commands (R80): 32 bytes. -/
def frameOperand : Operand → Except Reject Frame
  | .bytes bs =>
    match Frame.ofBytes bs with
    | some f => .ok f
    | none => .error .malformedOperand
  | .nothing => .error .malformedOperand
  | .token _ => .error .malformedOperand

/-- An instruction from its mnemonic and its operand (R80, R82). -/
def assembleInstr : Op → Operand → Except Reject Instr
  | .create, x => (tokenOperand x).map .create
  | .release, x => noOperand .release x
  | .read, x => noOperand .read x
  | .validate, x => (frameOperand x).map .validate
  | .chksync, x => (frameOperand x).map .chksync
  | .chksum, x => (frameOperand x).map .chksum
  | .decode, x => (frameOperand x).map .decode
  | .decPm1, x => (frameOperand x).map .decPm1
  | .decPm2_5, x => (frameOperand x).map .decPm2_5
  | .decPm10, x => (frameOperand x).map .decPm10
  | .decEnvPm1, x => (frameOperand x).map .decEnvPm1
  | .decEnvPm2_5, x => (frameOperand x).map .decEnvPm2_5
  | .decEnvPm10, x => (frameOperand x).map .decEnvPm10
  | .decPc0_3, x => (frameOperand x).map .decPc0_3
  | .decPc0_5, x => (frameOperand x).map .decPc0_5
  | .decPc1, x => (frameOperand x).map .decPc1
  | .decPc2_5, x => (frameOperand x).map .decPc2_5
  | .decPc5, x => (frameOperand x).map .decPc5
  | .decPc10, x => (frameOperand x).map .decPc10

/-- The decoder (R82): the opcode alone selects the command; then the operand's shape is checked. -/
def decode (c : Command) : Except Reject Instr :=
  match opOfByte c.op with
  | none => .error .unassignedOpcode
  | some o => assembleInstr o c.operand

/-! ### The encoder -/

/-- The mnemonic of an instruction. -/
def Instr.op : Instr → Op
  | .create _ => .create
  | .release => .release
  | .read => .read
  | .validate _ => .validate
  | .chksync _ => .chksync
  | .chksum _ => .chksum
  | .decode _ => .decode
  | .decPm1 _ => .decPm1
  | .decPm2_5 _ => .decPm2_5
  | .decPm10 _ => .decPm10
  | .decEnvPm1 _ => .decEnvPm1
  | .decEnvPm2_5 _ => .decEnvPm2_5
  | .decEnvPm10 _ => .decEnvPm10
  | .decPc0_3 _ => .decPc0_3
  | .decPc0_5 _ => .decPc0_5
  | .decPc1 _ => .decPc1
  | .decPc2_5 _ => .decPc2_5
  | .decPc5 _ => .decPc5
  | .decPc10 _ => .decPc10

/-- The operand of an instruction, as the host passes it (R80). -/
def Instr.operand : Instr → Operand
  | .create t => .token t
  | .release => .nothing
  | .read => .nothing
  | .validate f => .bytes f.toList
  | .chksync f => .bytes f.toList
  | .chksum f => .bytes f.toList
  | .decode f => .bytes f.toList
  | .decPm1 f => .bytes f.toList
  | .decPm2_5 f => .bytes f.toList
  | .decPm10 f => .bytes f.toList
  | .decEnvPm1 f => .bytes f.toList
  | .decEnvPm2_5 f => .bytes f.toList
  | .decEnvPm10 f => .bytes f.toList
  | .decPc0_3 f => .bytes f.toList
  | .decPc0_5 f => .bytes f.toList
  | .decPc1 f => .bytes f.toList
  | .decPc2_5 f => .bytes f.toList
  | .decPc5 f => .bytes f.toList
  | .decPc10 f => .bytes f.toList

/-- The opcode of the extract of field `k` (R83): high nibble 3, field index in the low nibble. -/
def extractOpcode (k : Fin 12) : Byte := 0x30 + BitVec.ofNat 8 k

/-- The opcode of a mnemonic (R81). -/
def Op.opcode : Op → Byte
  | .create => 0x01
  | .release => 0x02
  | .read => 0x03
  | .validate => 0x10
  | .chksync => 0x11
  | .chksum => 0x12
  | .decode => 0x20
  | .decPm1 => extractOpcode 0
  | .decPm2_5 => extractOpcode 1
  | .decPm10 => extractOpcode 2
  | .decEnvPm1 => extractOpcode 3
  | .decEnvPm2_5 => extractOpcode 4
  | .decEnvPm10 => extractOpcode 5
  | .decPc0_3 => extractOpcode 6
  | .decPc0_5 => extractOpcode 7
  | .decPc1 => extractOpcode 8
  | .decPc2_5 => extractOpcode 9
  | .decPc5 => extractOpcode 10
  | .decPc10 => extractOpcode 11

/-- The encoder: the command that spells an instruction (R80, R81). -/
def encode (i : Instr) : Command := ⟨i.op.opcode, i.operand⟩

/-! ### The flat form of a frame -/

/-- The low `n` bytes of a number, least significant byte first. -/
def bytesLE : Nat → Nat → List Byte
  | 0, _ => []
  | n + 1, v => BitVec.ofNat 8 v :: bytesLE n (v / 256)

/-- The list has the length asked for, so that a frame can be built from it. -/
theorem bytesLE_length (n v : Nat) : (bytesLE n v).length = n := by
  induction n generalizing v with
  | zero => rfl
  | succ n ih => simp [bytesLE, ih]

/-- A frame as one 256-bit word (R92): byte `i` at bits `8i+7 .. 8i`. -/
def Frame.flat (f : Frame) : BitVec 256 :=
  f.toList.foldr (fun b acc => acc <<< 8 ||| b.setWidth 256) 0

/-- The frame a 256-bit word holds (R92). -/
def Frame.ofFlat (v : BitVec 256) : Frame :=
  ⟨(bytesLE 32 v.toNat).toArray, by simp [bytesLE_length]⟩

/-! ### A command as the bits of its binary form -/

/-- The command whose binary form (R91: the opcode byte, then the operand) has the bits of `w`, bit 0 the least
significant bit of the opcode byte. A frame follows in its flat form (R92). DESIGN CHOICE (log entry 9): a token has no byte
form in the spec (95 L3), so the number above the opcode byte is the token's identity.
DESIGN CHOICE (log entry 16): the spec has no number form of a whole command, so what a number spells when it does not fit
is the model's: bits above the opcode and the frame (from bit 264 on) are dropped where a frame follows, and for READ and
RELEASE, where nothing follows, a number other than 0 above the opcode spells an operand, which the decoder turns away. -/
def Command.ofBits (w : Nat) : Command :=
  let op : Byte := BitVec.ofNat 8 w
  let rest := w / 256
  let frameBytes := (Frame.ofFlat (BitVec.ofNat 256 rest)).toList
  match shapeOfOpcode op with
  | .token => ⟨op, .token ⟨rest⟩⟩
  | .frame => ⟨op, .bytes frameBytes⟩
  | .nothing => ⟨op, if rest = 0 then .nothing else .bytes frameBytes⟩

/-- The instruction the decoder reads from the `nbits` bits of `w`, every bit above them zero. -/
def decodeTableWord (nbits w : Nat) : Option Instr :=
  match decode (Command.ofBits (w % 2 ^ nbits)) with
  | .ok i => some i
  | .error _ => none

/-! ### The written form of a command (R91) -/

/-- The mnemonic as R81 spells it. -/
def Op.mnemonic : Op → String
  | .create => "CREATE"
  | .release => "RELEASE"
  | .read => "READ"
  | .validate => "VALIDATE"
  | .chksync => "CHKSYNC"
  | .chksum => "CHKSUM"
  | .decode => "DECODE"
  | .decPm1 => "DEC.PM1"
  | .decPm2_5 => "DEC.PM2_5"
  | .decPm10 => "DEC.PM10"
  | .decEnvPm1 => "DEC.ENV_PM1"
  | .decEnvPm2_5 => "DEC.ENV_PM2_5"
  | .decEnvPm10 => "DEC.ENV_PM10"
  | .decPc0_3 => "DEC.PC0_3"
  | .decPc0_5 => "DEC.PC0_5"
  | .decPc1 => "DEC.PC1"
  | .decPc2_5 => "DEC.PC2_5"
  | .decPc5 => "DEC.PC5"
  | .decPc10 => "DEC.PC10"

/-- One upper-case hexadecimal digit. -/
def hexDigit (n : Nat) : Char := ("0123456789ABCDEF".toList)[n]?.getD '0'

/-- A byte as two hexadecimal digits. -/
def hexByte (b : Byte) : List Char := [hexDigit (b.toNat / 16), hexDigit (b.toNat % 16)]

/-- The operand part of a line: a token as a name, a frame as 32 two-digit bytes, offset 0 first, each after a space.
DESIGN CHOICE (log entry 9): the name of token `n` is `t` followed by `n`. -/
def Operand.written : Operand → List Char
  | .nothing => []
  | .token t => ' ' :: 't' :: (toString t.id).toList
  | .bytes bs => bs.flatMap fun b => ' ' :: hexByte b

/-- The line that writes an instruction (R91): the mnemonic first, in upper case, then the operand. -/
def Instr.written (i : Instr) : String := String.ofList (i.op.mnemonic.toList ++ i.operand.written)

/-- The words of a line: what stands between spaces. -/
def splitWords (cs : List Char) : List (List Char) :=
  let close (w : List Char) (ws : List (List Char)) := if w.isEmpty then ws else w :: ws
  let (w, ws) := cs.foldr (fun c (w, ws) => if c == ' ' then ([], close w ws) else (c :: w, ws)) ([], [])
  close w ws

/-- The value of a hexadecimal digit; its case carries no meaning (R9). -/
def hexValue (c : Char) : Option Nat := "0123456789ABCDEF".toList.idxOf? c.toUpper

/-- A two-digit hexadecimal byte. -/
def readByte : List Char → Option Byte
  | [a, b] => (hexValue a).bind fun h => (hexValue b).map fun l => BitVec.ofNat 8 (16 * h + l)
  | [] => none
  | [_] => none
  | _ :: _ :: _ :: _ => none

/-- A token's name (log entry 9): `t` and a decimal number. -/
def readToken : List Char → Option Token
  | [] => none
  | c :: ds =>
    if c == 't' && !ds.isEmpty then
      (ds.foldlM (fun n d => ("0123456789".toList.idxOf? d).map (10 * n + ·)) 0).map Token.mk
    else none

/-- The operand a line carries, read by what its opcode class takes; it may be the wrong operand for the opcode, and the
decoder then turns the command away (R82). -/
def readOperand (shape : OperandShape) (ws : List (List Char)) : Option Operand :=
  match shape, ws with
  | .token, [w] => (readToken w).map .token
  | .token, [] => some .nothing
  | .nothing, [] => some .nothing
  | .token, _ :: _ :: _ => none
  | .nothing, w :: ws => ((w :: ws).mapM readByte).map .bytes
  | .frame, ws => (ws.mapM readByte).map .bytes

/-- The command a line writes (R91): a comment, from `;` on, is no part of it. -/
def Command.ofLine (line : String) : Option Command :=
  match splitWords (line.toList.takeWhile (· != ';')) with
  | [] => none
  | m :: ws =>
    ((opcodeTable.map (·.op)).find? fun o => o.mnemonic.toList == m).bind fun o =>
      (readOperand (shapeOfOpcode o.opcode) ws).map fun x => ⟨o.opcode, x⟩

end Sys2Proof
end

