-- ==== Sys2Proof/Machine/State.lean ====
section
/-! DEFINITION. Machine/State.lean: the state of one core instance (R20 to R25), the outside world it deals with (R6), the
values it produces (R26, R27, R84), and the reasons a step can stop (R195). -/

namespace Sys2Proof.Machine

/-! ### Values the core produces -/

/-- The cause type at which `exec`, `step` and `core` run. `Cause` is a type parameter of the model (R7, R191, OPEN-1):
every type below that holds a cause takes it, and so does the machine (`Machine.coreAt`).
DESIGN CHOICE (log entry 5): where no cause type is named, it is this one, in which a number stands for a cause. -/
structure CauseId where
  id : Nat
deriving DecidableEq, Repr

/-- A Reading (R26, R86): the twelve measurement words of a frame that passed validation. -/
structure Reading where
  pm1 : Word
  pm2_5 : Word
  pm10 : Word
  env_pm1 : Word
  env_pm2_5 : Word
  env_pm10 : Word
  particles_larger_than_0_3 : Word
  particles_larger_than_0_5 : Word
  particles_larger_than_1 : Word
  particles_larger_than_2_5 : Word
  particles_larger_than_5 : Word
  particles_larger_than_10 : Word
deriving DecidableEq, Repr

/-- FieldWords (R27): what a standalone DECODE returns. A type of its own, so that a Reading always comes from a
validated frame. -/
structure FieldWords where
  pm1 : Word
  pm2_5 : Word
  pm10 : Word
  env_pm1 : Word
  env_pm2_5 : Word
  env_pm10 : Word
  particles_larger_than_0_3 : Word
  particles_larger_than_0_5 : Word
  particles_larger_than_1 : Word
  particles_larger_than_2_5 : Word
  particles_larger_than_5 : Word
  particles_larger_than_10 : Word
deriving DecidableEq, Repr

/-- The closed set of errors, generic over the transport's cause type (R191). -/
inductive Error (Cause : Type := CauseId) where
  /-- R192: the transport answered with an error. -/
  | transportError (cause : Cause)
  /-- R193: the marker is wrong. -/
  | badMagic
  /-- R194: the checksum is wrong. -/
  | badChecksum
deriving DecidableEq, Repr

/-- The payload of a response (R80, R84). -/
inductive Payload (Cause : Type := CauseId) where
  | none
  | token (t : Token)
  | reading (r : Reading)
  | fieldWords (w : FieldWords)
  | word (w : Word)
  | cause (c : Cause)
deriving DecidableEq, Repr

/-- A response (R84): success with its payload, or one of the errors. -/
inductive Response (Cause : Type := CauseId) where
  | ok (p : Payload Cause)
  | error (e : Error Cause)
deriving DecidableEq, Repr

/-- A command that has ended, with its response (R239). -/
structure Ended (Cause : Type := CauseId) where
  command  : Instr
  response : Response Cause
deriving DecidableEq, Repr

/-! ### The core instance -/

/-- `life` (R21). -/
inductive Life where
  | none
  | active
  | released
deriving DecidableEq, Repr

/-- `phase` (R24). -/
inductive Phase where
  | idle
  | waitTransport
deriving DecidableEq, Repr

/-- The architectural state of one core instance: "exactly these elements, and nothing else" (R20). -/
structure CoreInst where
  life      : Life
  devAddr   : BusAddr
  transport : Option Token
  phase     : Phase
  frame     : Option Frame
deriving DecidableEq, Repr

/-! ### The outside world -/

/-- A bus request `BusRead(addr, len)` (R114), addressed to the transport the instance owns (R23). -/
structure BusRequest where
  transport : Option Token
  addr      : BusAddr
  len       : Nat
deriving DecidableEq, Repr

/-- The transport's answer to a request (R115); no answer at all is the absence of one. -/
inductive Answer (Cause : Type := CauseId) where
  | ok (bytes : Frame)
  | err (cause : Cause)
deriving DecidableEq, Repr

/-- What HOST or TRANSPORT does next (R6). -/
inductive Event (Cause : Type := CauseId) where
  /-- HOST issues a command. -/
  | issue (c : Command)
  /-- TRANSPORT answers the request in flight. -/
  | answer (r : Answer Cause)
deriving DecidableEq, Repr

/-- The core instance, and what passes between it and the outside world. `State` alone is the state of this machine;
`State Cause` is the state of the machine whose transport has the cause type `Cause` (R7). -/
structure State (Cause : Type := CauseId) where
  /-- The core instance (R20). -/
  inst      : CoreInst
  /-- What HOST and TRANSPORT do next, in order. -/
  events    : List (Event Cause)
  /-- The bus requests issued so far, oldest first (R114). -/
  requests  : List BusRequest
  /-- The commands that have ended, oldest first, each with its response (R84, R239). -/
  responses : List (Ended Cause)
  /-- The model's own: how many free values have been drawn (log entry 3). -/
  draws     : Nat
deriving DecidableEq, Repr

/-! ### Why a step stops -/

/-- The reasons a step can fault: none. "No behaviour of the block is a `fault`. The block has no trap" (93, after A13);
an error is a response (R190). Safe: nothing is left out by it. -/
inductive Fault where
deriving DecidableEq, Repr

/-- R195's reasons for refusing a command, one per row of its table. -/
inductive Reason where
  /-- The opcode is not in R81's table (R93). -/
  | unassignedOpcode
  /-- The operand does not have the shape R80 asks for (R82). -/
  | malformedOperand
  /-- CREATE while `life = ACTIVE` (R110). -/
  | alreadyActive
  /-- RELEASE or READ while `life != ACTIVE` (R111, R112). -/
  | notActive
  /-- CREATE, RELEASE or READ while `phase = WAIT_TRANSPORT` (R235). -/
  | readInFlight
deriving DecidableEq, Repr

/-- The ways a step is refused. Each is safe: the run stops where the spec gives the command no meaning (R195 "errs
toward unprovable"). -/
inductive Refusal where
  /-- Raised by `exec` for an instruction that has no meaning yet. Safe. -/
  | notModelled (mnemonic : String)
  /-- Raised by `step`, and by CREATE, RELEASE and READ: the command has no meaning (R195). Every row of R195's table that
  applies is listed, in the table's order, since "either one excludes it" (log entry 7); the list is never empty. Safe. -/
  | command (reasons : List Reason)
  /-- Raised by `step`: TRANSPORT answers while no request is in flight, which R120 and D21 assume it never does. Safe
  (log entry 6). -/
  | strayAnswer
deriving DecidableEq, Repr

/-- The outcome of a meaning or a step. -/
abbrev Result (Cause : Type := CauseId) := Host.Outcome (State Cause) Fault Refusal

/-! ### Reset -/

/-- The instance before any CREATE (R35, R231). DESIGN CHOICE (log entry 2): `dev_addr`, unspecified there, is 0. -/
def CoreInst.reset : CoreInst where
  life := .none
  devAddr := 0
  transport := none
  phase := .idle
  frame := none

/-- The machine before any CREATE, with nothing yet sent to it, for any cause type. -/
def State.resetAt (Cause : Type) : State Cause where
  inst := CoreInst.reset
  events := []
  requests := []
  responses := []
  draws := 0

/-- The machine before any CREATE, with nothing yet sent to it. -/
def State.reset : State := State.resetAt CauseId

end Sys2Proof.Machine
end

