-- ==== Sys2Proof/Machine/Operands.lean ====
section
/-! DEFINITION. Machine/Operands.lean: reading a frame (R53, R54) and the twelve measurement words of it (R86, R160). The
block's only operand forms are the token and the frame (R80). -/

namespace Sys2Proof.Machine

/-- `zext_16` (R9). -/
def zext16 (b : Byte) : Word := b.setWidth 16

/-- `FrameByte(f, i)` (R53). -/
def frameByte (f : Frame) (i : Nat) (h : i < 32 := by decide) : Byte := f[i]

/-- `FrameWord(f, o)` (R54): big-endian, the byte at the lower offset is the high byte. -/
def frameWord (f : Frame) (o : Nat) (h : o + 1 < 32 := by decide) : Word :=
  (zext16 (frameByte f o (Nat.lt_of_succ_lt h)) <<< 8) ||| zext16 (frameByte f (o + 1) h)

/-- The offset of the high byte of field `k` (R83, R86). -/
def fieldOffset (k : Fin 12) : Nat := 4 + 2 * k

/-- Every field lies inside the frame (R57). -/
theorem fieldOffset_fits (k : Fin 12) : fieldOffset k + 1 < 32 := by
  unfold fieldOffset; omega

/-- Field `k` of a frame (R86). -/
def fieldWord (f : Frame) (k : Fin 12) : Word := frameWord f (fieldOffset k) (fieldOffset_fits k)

/-- `Decode(f)` (R160): the twelve words in field order; total. -/
def decodeFrame (f : Frame) : Vector Word 12 := Vector.ofFn (fieldWord f)

/-- The twelve words under their names (R27, R86). -/
def FieldWords.ofWords (w : Vector Word 12) : FieldWords where
  pm1 := w[0]
  pm2_5 := w[1]
  pm10 := w[2]
  env_pm1 := w[3]
  env_pm2_5 := w[4]
  env_pm10 := w[5]
  particles_larger_than_0_3 := w[6]
  particles_larger_than_0_5 := w[7]
  particles_larger_than_1 := w[8]
  particles_larger_than_2_5 := w[9]
  particles_larger_than_5 := w[10]
  particles_larger_than_10 := w[11]

/-- `Reading(w)` (R26, R86, R174): applied only by READ, to a validated frame. -/
def Reading.ofWords (w : Vector Word 12) : Reading where
  pm1 := w[0]
  pm2_5 := w[1]
  pm10 := w[2]
  env_pm1 := w[3]
  env_pm2_5 := w[4]
  env_pm10 := w[5]
  particles_larger_than_0_3 := w[6]
  particles_larger_than_0_5 := w[7]
  particles_larger_than_1 := w[8]
  particles_larger_than_2_5 := w[9]
  particles_larger_than_5 := w[10]
  particles_larger_than_10 := w[11]

end Sys2Proof.Machine
end

