-- ==== Sys2Proof/Machine/Flags.lean ====
section
/-! DEFINITION. Machine/Flags.lean: the block has no flags (R31); the outcome of a check is part of its command's response.
This file holds the checks: the marker (R141), the checksum (R142, R143), and both in order (R140). -/

namespace Sys2Proof.Machine

/-- One addition of the accumulator: modulo 65536 (R143). -/
def sumStep (acc : Word) (b : Byte) : Word := acc + zext16 b

/-- `Sum16(f)` (R143): the bytes at offsets 0 to 29, added in a 16-bit accumulator. -/
def sum16 (f : Frame) : Word := (f.toList.take Config.sumLen).foldl sumStep 0

/-- The checksum field of a frame (R87). -/
def checksumField (f : Frame) : Word := frameWord f 30

/-- `SyncOK(f)` (R141). -/
def syncOK (f : Frame) : Bool := frameByte f 0 == Config.sync0 && frameByte f 1 == Config.sync1

/-- `SumOK(f)` (R142). -/
def sumOK (f : Frame) : Bool := sum16 f == checksumField f

/-- What `Validate` returns (R140). -/
inductive Verdict where
  | ok
  | badMagic
  | badChecksum
deriving DecidableEq, Repr

/-- `Validate(f)` (R140, R145): the marker first, then the checksum; the first failure wins. -/
def validate (f : Frame) : Verdict :=
  if syncOK f then
    if sumOK f then .ok else .badChecksum
  else .badMagic

/-- `P ++ t` (R9): a 30-byte prefix and the two bytes after it. -/
def joinFrame (p : Vector Byte 30) (t : Vector Byte 2) : Frame := ⟨(p.toList ++ t.toList).toArray, by simp⟩

/-- `checksum16(P)` (R87): the sum of the prefix, high byte first, where `S = Sum16(P ++ [0,0])`. -/
def checksum16 (p : Vector Byte 30) : Vector Byte 2 :=
  let s := sum16 (joinFrame p #v[0, 0])
  #v[(s >>> 8).setWidth 8, s.setWidth 8]

/-- A valid frame from a 30-byte prefix: `P ++ checksum16(P)` (R87, R147). -/
def appendChecksum (p : Vector Byte 30) : Frame := joinFrame p (checksum16 p)

/-- The first 30 bytes of a frame, `f[0..30)`. -/
def framePrefix (f : Frame) : Vector Byte 30 := Vector.ofFn fun i => f[i.val]

/-- The last two bytes of a frame, `f[30..32)`. -/
def frameChecksumBytes (f : Frame) : Vector Byte 2 := #v[frameByte f 30, frameByte f 31]

end Sys2Proof.Machine
end

