-- ==== Sys2Proof/Machine/Ops.lean ====
section
/-! DEFINITION. Machine/Ops.lean: the operations the meanings share: producing a response (R84, R239), returning an error
(R190, R197), refusing a command (R195), the frame buffer (R25, R58), the bus request (R114), and opening and closing a
session (R110, R111). Each is generic over the transport's cause type (R7, R191). -/

namespace Sys2Proof.Machine

variable {Cause : Type}

/-! ### Responses -/

/-- The code of a response (R84). -/
def Response.code : Response Cause → Byte
  | .ok _ => 0
  | .error (.transportError _) => 1
  | .error .badMagic => 2
  | .error .badChecksum => 3

/-- The payload of a response (R84): the cause for a transport error, nothing for the other errors. -/
def Response.payload : Response Cause → Payload Cause
  | .ok p => p
  | .error (.transportError c) => .cause c
  | .error .badMagic => .none
  | .error .badChecksum => .none

/-- `respond(code, payload)` (R10, R84): the command ends with this response. -/
def State.respond (s : State Cause) (command : Instr) (r : Response Cause) : State Cause :=
  { s with responses := s.responses ++ [⟨command, r⟩] }

/-- `raise E(info)` (R10, R190): the one way an error is returned. It is a response; no handler runs, nothing is saved and
no mode changes (R197, R199). The cleanup of R197 is done before it, by READ alone (`State.endRead`). There is no return
from an error (R198): the next command starts from the state this leaves. -/
def State.raiseError (s : State Cause) (command : Instr) (e : Error Cause) : State Cause := s.respond command (.error e)

/-- Ends a checking command with the verdict as its response (R140). -/
def State.respondVerdict (s : State Cause) (command : Instr) : Verdict → State Cause
  | .ok => s.respond command (.ok .none)
  | .badMagic => s.raiseError command .badMagic
  | .badChecksum => s.raiseError command .badChecksum

/-- Ends a command with the word it decoded (R161 to R172). -/
def State.respondWord (s : State Cause) (command : Instr) (w : Word) : State Cause := s.respond command (.ok (.word w))

/-- The payload that hands a transport back (R111). DESIGN CHOICE (log entry 15): an active session without a token, which
no run reaches, hands nothing back. -/
def Payload.ofTransport : Option Token → Payload Cause
  | some t => .token t
  | Option.none => Payload.none

/-! ### The frame buffer and the read sequencer -/

/-- `frame <- b` (R58, R116): all 32 bytes at once. -/
def State.fillFrame (s : State Cause) (b : Frame) : State Cause := { s with inst := { s.inst with frame := some b } }

/-- The frame in the buffer. READ reads it only after a fill (R63), so the empty case does not arise. -/
def State.bufferedFrame (s : State Cause) : Frame := s.inst.frame.getD Frame.zero

/-- `phase <- p` (R24). -/
def State.setPhase (s : State Cause) (p : Phase) : State Cause := { s with inst := { s.inst with phase := p } }

/-- `frame <- none; phase <- IDLE`: the end of a READ, on success and on error (R112, R197). -/
def State.endRead (s : State Cause) : State Cause := { s with inst := { s.inst with frame := none, phase := .idle } }

/-- `BusRead(dev_addr, n)` (R114): one request, addressed to the transport the instance owns (R23). -/
def State.busRead (s : State Cause) (n : Nat) : State Cause :=
  { s with requests := s.requests ++ [⟨s.inst.transport, s.inst.devAddr, n⟩] }

/-! ### The session -/

/-- What CREATE writes (R110, R35): `addr` is R7's `DEV_ADDR`. -/
def State.openSession (s : State Cause) (addr : BusAddr) (t : Token) : State Cause :=
  { s with inst := { life := .active, devAddr := addr, transport := some t, phase := .idle, frame := none } }

/-- What RELEASE writes (R111), and `dev_addr`, which R35 leaves unspecified from here on: a free value (log entry 3). -/
def State.closeSession (s : State Cause) : State Cause :=
  { s with
    inst := { s.inst with
      life := .released
      transport := none
      devAddr := Config.unspecifiedDevAddr s.draws }
    draws := s.draws + 1 }

/-! ### Refusals (R195) -/

/-- The row of a decoder's rejection in R195's table. -/
def reasonOfReject : Reject → Reason
  | .unassignedOpcode => .unassignedOpcode
  | .malformedOperand => .malformedOperand

/-- R195's table, the rows about the instance's state: does this reason exclude the command now? The first two rows are
about the command's form alone and are the decoder's. The rows decide also where a command's pseudocode stops at the first
reason or does not check one, in states that no run reaches (log entry 7). -/
def excludes (o : Op) (s : State Cause) : Reason → Bool
  | .unassignedOpcode => false
  | .malformedOperand => false
  | .alreadyActive => o == .create && s.inst.life == .active
  | .notActive => (o == .release || o == .read) && s.inst.life != .active
  | .readInFlight => (o == .create || o == .release || o == .read) && s.inst.phase == .waitTransport

/-- The reasons of the instance's state that exclude a command (R195), in the order of its table. -/
def sessionReasons (o : Op) (s : State Cause) : List Reason :=
  [Reason.alreadyActive, .notActive, .readInFlight].filter (excludes o s)

/-- "Refusals are checked before anything else" (R195): the command has its effect `s'` unless some reason excludes it. -/
def attempt (o : Op) (s s' : State Cause) : Result Cause :=
  match sessionReasons o s with
  | [] => .next s'
  | r :: rs => .refused (.command (r :: rs))

/-- The refusal of a command that spells no instruction (R82, R195): the decoder's reason, and those of the instance's
state where its opcode is assigned. -/
def refuseUndecoded (op : Byte) (e : Reject) (s : State Cause) : Result Cause :=
  match opOfByte op with
  | none => .refused (.command [reasonOfReject e])
  | some o => .refused (.command (reasonOfReject e :: sessionReasons o s))

end Sys2Proof.Machine
end

