-- ==== Sys2Proof/Machine/Decoder.lean ====
section
/-! DEFINITION. Machine/Decoder.lean: DECODE and the twelve single-field extracts (42_decoder.md). Each reads only its operand,
never fails, never validates (D6) and never scales (R173). -/

namespace Sys2Proof.Machine

variable {Cause : Type}

/-- DECODE (R160): FieldWords, never a Reading (R27, R174). -/
def execDecode (f : Frame) (s : State Cause) : Result Cause :=
  .next (s.respond (.decode f) (.ok (.fieldWords (.ofWords (decodeFrame f)))))

/-- DEC.PM1 (R161): `pm1`, the word at offsets 4 and 5. -/
def execDecPm1 (f : Frame) (s : State Cause) : Result Cause := .next (s.respondWord (.decPm1 f) (frameWord f 4))

/-- DEC.PM2_5 (R162): `pm2_5`, the word at offsets 6 and 7. -/
def execDecPm2_5 (f : Frame) (s : State Cause) : Result Cause := .next (s.respondWord (.decPm2_5 f) (frameWord f 6))

/-- DEC.PM10 (R163): `pm10`, the word at offsets 8 and 9. -/
def execDecPm10 (f : Frame) (s : State Cause) : Result Cause := .next (s.respondWord (.decPm10 f) (frameWord f 8))

/-- DEC.ENV_PM1 (R164): `env_pm1`, the word at offsets 10 and 11. -/
def execDecEnvPm1 (f : Frame) (s : State Cause) : Result Cause := .next (s.respondWord (.decEnvPm1 f) (frameWord f 10))

/-- DEC.ENV_PM2_5 (R165): `env_pm2_5`, the word at offsets 12 and 13. -/
def execDecEnvPm2_5 (f : Frame) (s : State Cause) : Result Cause := .next (s.respondWord (.decEnvPm2_5 f) (frameWord f 12))

/-- DEC.ENV_PM10 (R166): `env_pm10`, the word at offsets 14 and 15. -/
def execDecEnvPm10 (f : Frame) (s : State Cause) : Result Cause := .next (s.respondWord (.decEnvPm10 f) (frameWord f 14))

/-- DEC.PC0_3 (R167): `particles_larger_than_0_3`, the word at offsets 16 and 17. -/
def execDecPc0_3 (f : Frame) (s : State Cause) : Result Cause := .next (s.respondWord (.decPc0_3 f) (frameWord f 16))

/-- DEC.PC0_5 (R168): `particles_larger_than_0_5`, the word at offsets 18 and 19. -/
def execDecPc0_5 (f : Frame) (s : State Cause) : Result Cause := .next (s.respondWord (.decPc0_5 f) (frameWord f 18))

/-- DEC.PC1 (R169): `particles_larger_than_1`, the word at offsets 20 and 21. -/
def execDecPc1 (f : Frame) (s : State Cause) : Result Cause := .next (s.respondWord (.decPc1 f) (frameWord f 20))

/-- DEC.PC2_5 (R170): `particles_larger_than_2_5`, the word at offsets 22 and 23. -/
def execDecPc2_5 (f : Frame) (s : State Cause) : Result Cause := .next (s.respondWord (.decPc2_5 f) (frameWord f 22))

/-- DEC.PC5 (R171): `particles_larger_than_5`, the word at offsets 24 and 25. -/
def execDecPc5 (f : Frame) (s : State Cause) : Result Cause := .next (s.respondWord (.decPc5 f) (frameWord f 24))

/-- DEC.PC10 (R172): `particles_larger_than_10`, the word at offsets 26 and 27. -/
def execDecPc10 (f : Frame) (s : State Cause) : Result Cause := .next (s.respondWord (.decPc10 f) (frameWord f 26))

end Sys2Proof.Machine
end

