-- ==== Sys2Proof/Machine/Session.lean ====
section
/-! DEFINITION. Machine/Session.lean: CREATE, RELEASE and READ (40_session.md). READ's meaning has two parts: the issue step
(`execRead`) and the completion step (`completeRead`), which runs when TRANSPORT answers. -/

namespace Sys2Proof.Machine

variable {Cause : Type}

/-- CREATE (R110, R230), with `DEV_ADDR` as an argument (R7, D17). -/
def createAt (addr : BusAddr) (t : Token) (s : State Cause) : Result Cause :=
  attempt .create s ((s.openSession addr t).respond (.create t) (.ok .none))

/-- CREATE of this hardware, whose `DEV_ADDR` is `0x12` (R7). -/
def execCreate (t : Token) (s : State Cause) : Result Cause := createAt Config.devAddr t s

/-- RELEASE (R111). -/
def execRelease (s : State Cause) : Result Cause :=
  attempt .release s (s.closeSession.respond .release (.ok (.ofTransport s.inst.transport)))

/-- READ, the issue step (R112, R114, R232): the buffer is zeroed, then one request of 32 bytes goes out. No response yet. -/
def execRead (s : State Cause) : Result Cause :=
  attempt .read s (((s.fillFrame Frame.zero).setPhase .waitTransport).busRead Config.frameLen)

/-- READ's end once a frame is in the buffer (R112): validate, then decode; the buffer is discarded either way. -/
def finishRead (s : State Cause) : State Cause :=
  match validate s.bufferedFrame with
  | .badMagic => s.endRead.raiseError .read .badMagic
  | .badChecksum => s.endRead.raiseError .read .badChecksum
  | .ok => s.endRead.respond .read (.ok (.reading (.ofWords (decodeFrame s.bufferedFrame))))

/-- READ, the completion step (R112, R116, R117, R118, R196). -/
def completeRead (r : Answer Cause) (s : State Cause) : State Cause :=
  match r with
  | .err c => s.endRead.raiseError .read (.transportError c)
  | .ok b => finishRead (s.fillFrame b)

/-- TRANSPORT answers (R115, R120): the READ in flight completes. With none in flight the answer has no READ to complete
(D21), and the run is refused (log entry 6). -/
def takeAnswer (r : Answer Cause) (s : State Cause) : Result Cause :=
  match s.inst.phase with
  | .waitTransport => .next (completeRead r s)
  | .idle => .refused .strayAnswer

end Sys2Proof.Machine
end

