-- ==== Sys2Proof/Machine/Validator.lean ====
section
/-! DEFINITION. Machine/Validator.lean: VALIDATE, CHKSYNC and CHKSUM (41_validator.md). Each reads only its operand, writes no
state of the instance, and runs in every `life` and `phase`. -/

namespace Sys2Proof.Machine

variable {Cause : Type}

/-- VALIDATE (R140). -/
def execValidate (f : Frame) (s : State Cause) : Result Cause :=
  .next (s.respondVerdict (.validate f) (validate f))

/-- CHKSYNC (R141): the marker alone. -/
def execChksync (f : Frame) (s : State Cause) : Result Cause :=
  .next (s.respondVerdict (.chksync f) (if syncOK f then .ok else .badMagic))

/-- CHKSUM (R142): the checksum alone, whatever the marker (D18). -/
def execChksum (f : Frame) (s : State Cause) : Result Cause :=
  .next (s.respondVerdict (.chksum f) (if sumOK f then .ok else .badChecksum))

end Sys2Proof.Machine
end

