-- ==== Sys2Proof/Machine/Dispatch.lean ====
section
/-! DEFINITION. Machine/Dispatch.lean: one arm per instruction, each a call of its meaning. -/

namespace Sys2Proof.Machine

def exec (i : Instr) (s : State) : Host.Outcome State Fault Refusal :=
  match i with
  | .create t => Sys2Proof.Machine.execCreate t s
  | .release => Sys2Proof.Machine.execRelease s
  | .read => Sys2Proof.Machine.execRead s
  | .validate f => Sys2Proof.Machine.execValidate f s
  | .chksync f => Sys2Proof.Machine.execChksync f s
  | .chksum f => Sys2Proof.Machine.execChksum f s
  | .decode f => Sys2Proof.Machine.execDecode f s
  | .decPm1 f => Sys2Proof.Machine.execDecPm1 f s
  | .decPm2_5 f => Sys2Proof.Machine.execDecPm2_5 f s
  | .decPm10 f => Sys2Proof.Machine.execDecPm10 f s
  | .decEnvPm1 f => Sys2Proof.Machine.execDecEnvPm1 f s
  | .decEnvPm2_5 f => Sys2Proof.Machine.execDecEnvPm2_5 f s
  | .decEnvPm10 f => Sys2Proof.Machine.execDecEnvPm10 f s
  | .decPc0_3 f => Sys2Proof.Machine.execDecPc0_3 f s
  | .decPc0_5 f => Sys2Proof.Machine.execDecPc0_5 f s
  | .decPc1 f => Sys2Proof.Machine.execDecPc1 f s
  | .decPc2_5 f => Sys2Proof.Machine.execDecPc2_5 f s
  | .decPc5 f => Sys2Proof.Machine.execDecPc5 f s
  | .decPc10 f => Sys2Proof.Machine.execDecPc10 f s

end Sys2Proof.Machine
end

