-- ==== Sys2Proof/Machine/Parametric.lean ====
section
/-! DEFINITION. Machine/Parametric.lean: the machine with R7's two open parameters as arguments: `Cause`, the transport's
error type (OPEN-1), and `DEV_ADDR` (D17, OPEN-2). `exec`, `step` and `core` are this machine at `CauseId` and `0x12`. -/

namespace Sys2Proof.Machine

variable {Cause : Type}

/-- What an instruction does, for any `DEV_ADDR`: the arms of `exec`, with CREATE's address an argument (R7, D17). -/
def execAt (addr : BusAddr) (i : Instr) (s : State Cause) : Result Cause :=
  match i with
  | .create t => createAt addr t s
  | .release => execRelease s
  | .read => execRead s
  | .validate f => execValidate f s
  | .chksync f => execChksync f s
  | .chksum f => execChksum f s
  | .decode f => execDecode f s
  | .decPm1 f => execDecPm1 f s
  | .decPm2_5 f => execDecPm2_5 f s
  | .decPm10 f => execDecPm10 f s
  | .decEnvPm1 f => execDecEnvPm1 f s
  | .decEnvPm2_5 f => execDecEnvPm2_5 f s
  | .decEnvPm10 f => execDecEnvPm10 f s
  | .decPc0_3 f => execDecPc0_3 f s
  | .decPc0_5 f => execDecPc0_5 f s
  | .decPc1 f => execDecPc1 f s
  | .decPc2_5 f => execDecPc2_5 f s
  | .decPc5 f => execDecPc5 f s
  | .decPc10 f => execDecPc10 f s

/-- The host issues a command: it is decoded (R82) and run, or refused (R195). -/
def runCommand (run : Instr → State Cause → Result Cause) (c : Command) (s : State Cause) : Result Cause :=
  match decode c with
  | .ok i => run i s
  | .error e => refuseUndecoded c.op e s

/-- One step, given what an instruction does. With no event left nothing happens (R238): an idle core stays idle, and a READ
whose transport never answers waits for ever (R208). DESIGN CHOICE (log entry 1). -/
def stepWith (run : Instr → State Cause → Result Cause) (s : State Cause) : Result Cause :=
  match s.events with
  | [] => .next s
  | .issue c :: rest => runCommand run c { s with events := rest }
  | .answer r :: rest => takeAnswer r { s with events := rest }

/-- One step, for any `DEV_ADDR` and any cause type. -/
def stepAt (addr : BusAddr) (s : State Cause) : Result Cause := stepWith (execAt addr) s

/-- The machine for any cause type and any `DEV_ADDR` (R7). -/
def coreAt (Cause : Type) (addr : BusAddr) : Host.Core :=
  { State := State Cause, Fault := Fault, Refusal := Refusal, step := stepAt addr, reset := State.resetAt Cause }

end Sys2Proof.Machine
end

