-- ==== Sys2Proof/Machine/Step.lean ====
section
/-! DEFINITION. Machine/Step.lean: one step takes one event: a command of HOST or an answer of TRANSPORT (R5, R6). The block
fetches nothing and has no program counter (R30, R66). -/

namespace Sys2Proof.Machine

/-- One step of this machine (R5, R6): `stepWith`, running instructions by `exec`. -/
def step (s : State) : Host.Outcome State Fault Refusal := stepWith exec s

/-- The state whose next event is the host issuing the command with the bits of `w` (log entry 10). -/
def State.withFetchWord (s : State) (nbits w : Nat) : State :=
  { s with events := .issue (Command.ofBits (w % 2 ^ nbits)) :: s.events }

end Sys2Proof.Machine
end

