-- ==== Sys2Proof/Safety.lean ====
section
/-! DEFINITION. Safety.lean: what claims are stated in: the invariant of an instance and its surroundings, a run with its
refusal mark and its observation (R195, R239), and the renaming of tokens and causes (R23, OPEN-1). -/

namespace Sys2Proof.Machine

variable {Cause C D : Type}

/-! ### The invariant -/

/-- Is this the end of a READ? -/
def Ended.isRead (e : Ended Cause) : Bool := e.command.op == .read

/-- How many READs are in flight: one while the core waits for the transport (R24, R34). -/
def CoreInst.inFlight (c : CoreInst) : Nat :=
  match c.phase with
  | .idle => 0
  | .waitTransport => 1

/-- What holds of a machine between two steps; `addr` is its `DEV_ADDR` (R7), this hardware's where none is named. -/
structure Inv (s : State Cause) (addr : BusAddr := Config.devAddr) : Prop where
  /-- R25: the frame buffer is `none` whenever `phase = IDLE`. -/
  idle_frame : s.inst.phase = .idle → s.inst.frame = none
  /-- R25, R232: while a READ waits, the buffer holds the zeros of its issue step. -/
  wait_frame : s.inst.phase = .waitTransport → s.inst.frame = some Frame.zero
  /-- R24, R111: only an active session waits for the transport. -/
  wait_active : s.inst.phase = .waitTransport → s.inst.life = .active
  /-- R23: the instance owns a token exactly while it is active. -/
  owns_iff : s.inst.transport.isSome = true ↔ s.inst.life = .active
  /-- R22: an active instance has the device address of R7. -/
  address : s.inst.life = .active → s.inst.devAddr = addr
  /-- R23, R59, R114: every request went to an owned transport, for 32 bytes from that address. -/
  request : ∀ q ∈ s.requests, q.transport.isSome = true ∧ q.addr = addr ∧ q.len = Config.frameLen
  /-- R23, R34: while a READ waits, the request in flight is the last one, and it went to the transport the instance owns. -/
  in_flight : s.inst.phase = .waitTransport → s.requests.getLast? = some ⟨s.inst.transport, addr, Config.frameLen⟩
  /-- R113: one request per READ, whether it has ended or is in flight. -/
  one_request : s.requests.length = (s.responses.filter Ended.isRead).length + s.inst.inFlight

/-! ### Runs, the refusal mark and the observation -/

/-- A run of the machine. The refusal mark is of the run, not of the block (R34, R195). -/
structure Run where
  state : State
  /-- Set by a refused command, cleared by nothing (R195). -/
  refusalMark : Bool
  /-- The responses produced in this run, each with the instance after it (R239), in the order in which they were produced
  (log entry 17). -/
  observed : List (Ended × CoreInst)
deriving DecidableEq, Repr

/-- A run that starts from a state. -/
def Run.start (s : State) : Run := ⟨s, false, []⟩

/-- The responses a step added, each with the instance after the step (R239). DESIGN CHOICE (log entry 17): they are observed
in the order of their production, so READ's response stands after those of the pure commands that ran while it waited. -/
def newlyEnded (s s' : State) : List (Ended × CoreInst) :=
  (s'.responses.drop s.responses.length).map fun e => (e, s'.inst)

/-- One step of a run. A refused command is used up; it changes no state, has no response and sets the mark (R195; log entry
11). DESIGN CHOICE (log entry 6): so is an answer that no READ waits for, of which the spec has no run (R120, D21): it is
dropped, the mark is set, and the run goes on. -/
def Run.step (r : Run) : Run :=
  match Sys2Proof.Machine.step r.state with
  | .next s' => ⟨s', r.refusalMark, r.observed ++ newlyEnded r.state s'⟩
  | .refused _ => ⟨{ r.state with events := r.state.events.tail }, true, r.observed⟩
  | .fault f => nomatch f

/-- `n` steps of a run. -/
def Run.steps : Nat → Run → Run
  | 0, r => r
  | n + 1, r => Run.steps n r.step

/-- Every command sent has ended (R239): no event is left and no READ is in flight. -/
def Run.allEnded (r : Run) : Bool := r.state.events.isEmpty && r.state.inst.phase == .idle

/-- The observation of R239: defined only when every command has ended and no refusal mark is set. -/
def Run.observation (r : Run) : Option (List (Ended × CoreInst)) :=
  if r.allEnded && !r.refusalMark then some r.observed else none

/-! ### Renaming tokens and causes -/

/-- A renaming of the values the core must not inspect: tokens (R23), and causes (R192, OPEN-1) into causes of any type. -/
structure Renaming (C : Type := CauseId) (D : Type := CauseId) where
  token : Token → Token
  cause : C → D

end Sys2Proof.Machine

namespace Sys2Proof

variable {C D : Type}

def Operand.rename (ρ : Machine.Renaming C D) : Operand → Operand
  | .nothing => .nothing
  | .token t => .token (ρ.token t)
  | .bytes bs => .bytes bs

def Command.rename (ρ : Machine.Renaming C D) (c : Command) : Command := ⟨c.op, c.operand.rename ρ⟩

def Instr.rename (ρ : Machine.Renaming C D) : Instr → Instr
  | .create t => .create (ρ.token t)
  | .release => .release
  | .read => .read
  | .validate f => .validate f
  | .chksync f => .chksync f
  | .chksum f => .chksum f
  | .decode f => .decode f
  | .decPm1 f => .decPm1 f
  | .decPm2_5 f => .decPm2_5 f
  | .decPm10 f => .decPm10 f
  | .decEnvPm1 f => .decEnvPm1 f
  | .decEnvPm2_5 f => .decEnvPm2_5 f
  | .decEnvPm10 f => .decEnvPm10 f
  | .decPc0_3 f => .decPc0_3 f
  | .decPc0_5 f => .decPc0_5 f
  | .decPc1 f => .decPc1 f
  | .decPc2_5 f => .decPc2_5 f
  | .decPc5 f => .decPc5 f
  | .decPc10 f => .decPc10 f

end Sys2Proof

namespace Sys2Proof.Machine

variable {C D : Type}

def Error.rename (ρ : Renaming C D) : Error C → Error D
  | .transportError c => .transportError (ρ.cause c)
  | .badMagic => .badMagic
  | .badChecksum => .badChecksum

def Payload.rename (ρ : Renaming C D) : Payload C → Payload D
  | .none => .none
  | .token t => .token (ρ.token t)
  | .reading r => .reading r
  | .fieldWords w => .fieldWords w
  | .word w => .word w
  | .cause c => .cause (ρ.cause c)

def Response.rename (ρ : Renaming C D) : Response C → Response D
  | .ok p => .ok (p.rename ρ)
  | .error e => .error (e.rename ρ)

def Ended.rename (ρ : Renaming C D) (e : Ended C) : Ended D := ⟨e.command.rename ρ, e.response.rename ρ⟩

def BusRequest.rename (ρ : Renaming C D) (q : BusRequest) : BusRequest :=
  { q with transport := q.transport.map ρ.token }

def CoreInst.rename (ρ : Renaming C D) (c : CoreInst) : CoreInst :=
  { c with transport := c.transport.map ρ.token }

def Answer.rename (ρ : Renaming C D) : Answer C → Answer D
  | .ok b => .ok b
  | .err c => .err (ρ.cause c)

def Event.rename (ρ : Renaming C D) : Event C → Event D
  | .issue c => .issue (c.rename ρ)
  | .answer r => .answer (r.rename ρ)

/-- The state with every token and every cause renamed. -/
def State.rename (ρ : Renaming C D) (s : State C) : State D where
  inst := s.inst.rename ρ
  events := s.events.map (·.rename ρ)
  requests := s.requests.map (·.rename ρ)
  responses := s.responses.map (·.rename ρ)
  draws := s.draws

/-- The outcome with every token and every cause renamed. -/
def renameResult (ρ : Renaming C D) : Result C → Result D
  | .next s => .next (s.rename ρ)
  | .fault f => .fault f
  | .refused r => .refused r

/-! ### The spec's own reading of a frame, in numbers

These say what a frame means without the operations of the machine, so that a claim compares the two. -/

/-- The number at offsets `o`, `o + 1`, high byte first (R54; the source's `(hi << 8) | lo`). -/
def wordValue (f : Frame) (o : Nat) (h : o + 1 < 32 := by decide) : Nat :=
  256 * (f[o]'(Nat.lt_of_succ_lt h)).toNat + f[o + 1].toNat

/-- The exact sum of the bytes at offsets 0 to 29 (R143, R144). -/
def byteSum (f : Frame) : Nat := ((f.toList.take 30).map BitVec.toNat).sum

/-- The frame carries a valid marker (R85). -/
abbrev HasMarker (f : Frame) : Prop := f[0] = 0x42 ∧ f[1] = 0x4D

/-- The frame carries a valid checksum (R87, R143): modulo 65536. -/
abbrev HasChecksum (f : Frame) : Prop := wordValue f 30 = byteSum f % 65536

/-- The twelve fields of a Reading are the words R86 gives for this frame. -/
abbrev Reading.ReadFrom (r : Reading) (f : Frame) : Prop :=
  r.pm1.toNat = wordValue f 4 ∧ r.pm2_5.toNat = wordValue f 6 ∧ r.pm10.toNat = wordValue f 8 ∧
  r.env_pm1.toNat = wordValue f 10 ∧ r.env_pm2_5.toNat = wordValue f 12 ∧ r.env_pm10.toNat = wordValue f 14 ∧
  r.particles_larger_than_0_3.toNat = wordValue f 16 ∧ r.particles_larger_than_0_5.toNat = wordValue f 18 ∧
  r.particles_larger_than_1.toNat = wordValue f 20 ∧ r.particles_larger_than_2_5.toNat = wordValue f 22 ∧
  r.particles_larger_than_5.toNat = wordValue f 24 ∧ r.particles_larger_than_10.toNat = wordValue f 26

/-- The twelve fields of a FieldWords are the words R86 gives for this frame. -/
abbrev FieldWords.ReadFrom (w : FieldWords) (f : Frame) : Prop :=
  w.pm1.toNat = wordValue f 4 ∧ w.pm2_5.toNat = wordValue f 6 ∧ w.pm10.toNat = wordValue f 8 ∧
  w.env_pm1.toNat = wordValue f 10 ∧ w.env_pm2_5.toNat = wordValue f 12 ∧ w.env_pm10.toNat = wordValue f 14 ∧
  w.particles_larger_than_0_3.toNat = wordValue f 16 ∧ w.particles_larger_than_0_5.toNat = wordValue f 18 ∧
  w.particles_larger_than_1.toNat = wordValue f 20 ∧ w.particles_larger_than_2_5.toNat = wordValue f 22 ∧
  w.particles_larger_than_5.toNat = wordValue f 24 ∧ w.particles_larger_than_10.toNat = wordValue f 26

/-- A single-field extract (R161 to R172): its opcode is `op`; from every state it answers the next state that differs by
one response alone, the word at offsets `o`, `o + 1` of its own frame. -/
def ExtractsWord (mk : Frame → Instr) (op : Byte) (o : Nat) (h : o + 1 < 32 := by decide) : Prop :=
  ∀ (f : Frame) (s : State), (encode (mk f)).op = op ∧
    ∃ w : Word, w.toNat = wordValue f o h ∧
      exec (mk f) s = .next { s with responses := s.responses ++ [⟨mk f, .ok (.word w)⟩] }

/-! ### Classes of instructions -/

/-- The pure commands (41_validator.md, 42_decoder.md, R120): all but CREATE, RELEASE and READ. -/
def isPure (i : Instr) : Bool :=
  match i.op with
  | .create => false
  | .release => false
  | .read => false
  | .validate => true
  | .chksync => true
  | .chksum => true
  | .decode => true
  | .decPm1 => true
  | .decPm2_5 => true
  | .decPm10 => true
  | .decEnvPm1 => true
  | .decEnvPm2_5 => true
  | .decEnvPm10 => true
  | .decPc0_3 => true
  | .decPc0_5 => true
  | .decPc1 => true
  | .decPc2_5 => true
  | .decPc5 => true
  | .decPc10 => true

/-- The single-field extract of field `k` (R83, R161 to R172). -/
def extractInstr (k : Fin 12) (f : Frame) : Instr :=
  match k with
  | 0 => .decPm1 f
  | 1 => .decPm2_5 f
  | 2 => .decPm10 f
  | 3 => .decEnvPm1 f
  | 4 => .decEnvPm2_5 f
  | 5 => .decEnvPm10 f
  | 6 => .decPc0_3 f
  | 7 => .decPc0_5 f
  | 8 => .decPc1 f
  | 9 => .decPc2_5 f
  | 10 => .decPc5 f
  | 11 => .decPc10 f

end Sys2Proof.Machine
end

