-- ==== Sys2Proof/Certificates/Slice0/Obligations.lean ====
section
/-! DEFINITION. Obligations.lean: the statements for the provers, from the numbered rules of spec/. -/

open Sys2Proof Sys2Proof.Machine

/-! ### Encoding (30_encoding.md) -/

/-- R81: an opcode byte selects a command exactly as the opcode map says. -/
def Obligations.OpcodeMapSelects : Prop :=
  ∀ (b : Byte) (o : Op), opOfByte b = some o ↔ (b, o) ∈
    ([(0x01, .create), (0x02, .release), (0x03, .read), (0x10, .validate), (0x11, .chksync), (0x12, .chksum),
      (0x20, .decode), (0x30, .decPm1), (0x31, .decPm2_5), (0x32, .decPm10), (0x33, .decEnvPm1),
      (0x34, .decEnvPm2_5), (0x35, .decEnvPm10), (0x36, .decPc0_3), (0x37, .decPc0_5), (0x38, .decPc1),
      (0x39, .decPc2_5), (0x3A, .decPc5), (0x3B, .decPc10)] : List (Byte × Op))

/-- R80, R82, R195: the decoder is total; an unassigned opcode is rejected whatever its operand, an assigned one whose operand
has the wrong shape is rejected as malformed, and every well-formed command selects the command of its opcode byte. That
READ or RELEASE with an operand is malformed is the model's reading (log entry 8). -/
def Obligations.DecoderDecidesEveryCommand : Prop :=
  ∀ c : Command,
    (c.opAssigned = false → decode c = .error .unassignedOpcode) ∧
    (c.opAssigned = true → c.operandFits = false → decode c = .error .malformedOperand) ∧
    (c.wellFormed = true → ∃ i, decode c = .ok i ∧ opOfByte c.op = some i.op) ∧
    (∀ s rest, s.events = .issue c :: rest → c.wellFormed = false → ∃ r, step s = .refused r)

/-- R93: the 237 opcode values outside the map are refused from every state, with any operand: the run's state is
unchanged but for the command taken, there is no response, and the mark is set. -/
def Obligations.UnassignedOpcodeRefused : Prop :=
  (((List.range 256).filter fun n => (opOfByte (BitVec.ofNat 8 n)).isNone).length = 237) ∧
  ∀ (op : Byte) (x : Operand) (s : State) (rest : List Event) (m : Bool) (o : List (Ended × CoreInst)),
    (op.toNat = 0x00 ∨ (0x04 ≤ op.toNat ∧ op.toNat ≤ 0x0F) ∨ (0x13 ≤ op.toNat ∧ op.toNat ≤ 0x1F) ∨
      (0x21 ≤ op.toNat ∧ op.toNat ≤ 0x2F) ∨ 0x3C ≤ op.toNat) →
    s.events = .issue ⟨op, x⟩ :: rest →
    step s = .refused (.command [.unassignedOpcode]) ∧
      Run.step ⟨s, m, o⟩ = ⟨{ s with events := rest }, true, o⟩

/-- Decode and encode agree in both directions: every instruction is read back from its encoding, with every token and
every frame; and a command that decodes is the encoding of what it decodes to, so no two commands spell one instruction. For
READ and RELEASE the second rests on the model's reading that an operand beside them is malformed (log entry 8). -/
def Obligations.DecodeInvertsEncode : Prop :=
  (∀ i : Instr, decode (encode i) = .ok i) ∧
  (∀ (c : Command) (i : Instr), decode c = .ok i → encode i = c)

/-- R83: with high nibble 3, the low nibble `k` is the field index: for `k <= 11` the command reads the word whose high
byte is at `4 + 2*k` and low byte at `5 + 2*k`; for `k >= 12` the opcode is unassigned. -/
def Obligations.LowNibbleIsFieldIndex : Prop :=
  ∀ b : Byte, b >>> 4 = 3 →
    (∀ (k : Fin 12) (f : Frame), (b &&& 0x0F).toNat = k →
      decode ⟨b, .bytes f.toList⟩ = .ok (extractInstr k f) ∧
      ∀ s, ∃ w : Word, w.toNat = 256 * f[4 + 2 * k.val].toNat + f[5 + 2 * k.val].toNat ∧
        exec (extractInstr k f) s =
          .next { s with responses := s.responses ++ [⟨extractInstr k f, .ok (.word w)⟩] }) ∧
    (12 ≤ (b &&& 0x0F).toNat → ∀ x, decode ⟨b, x⟩ = .error .unassignedOpcode)

/-- R92: in the flat form byte `i` occupies bits `8*i+7 .. 8*i`, and the frame is read back from it. -/
def Obligations.FlatFormHoldsEveryByte : Prop :=
  ∀ f : Frame, (∀ i : Fin 32, f.flat.extractLsb' (8 * i) 8 = f[i]) ∧ Frame.ofFlat f.flat = f

/-- A few table words decode to the commands R81 and 95 L2-E give for them, operands zero. -/
def Obligations.SampleWordsDecode : Prop :=
  decodeTableWord 8 0x01 = some (.create ⟨0⟩) ∧ decodeTableWord 8 0x02 = some .release ∧
  decodeTableWord 8 0x03 = some .read ∧ decodeTableWord 8 0x10 = some (.validate Frame.zero) ∧
  decodeTableWord 8 0x20 = some (.decode Frame.zero) ∧ decodeTableWord 8 0x3B = some (.decPc10 Frame.zero) ∧
  decodeTableWord 8 0x00 = none ∧ decodeTableWord 8 0x3C = none

/-! ### The step -/

/-- When the next event is a command, the step is what `exec` makes of the instruction it decodes to, the event used up;
a command that decodes to none is refused for the decoder's reason, a malformed one also for every reason of the instance's
state that excludes its opcode (R195's table lists them all; log entry 7). -/
def Obligations.StepRunsDecodedCommand : Prop :=
  ∀ (s : State) (c : Command) (rest : List Event), s.events = .issue c :: rest →
    (∀ i, decode c = .ok i → step s = exec i { s with events := rest }) ∧
    (decode c = .error .unassignedOpcode → step s = .refused (.command [.unassignedOpcode])) ∧
    (decode c = .error .malformedOperand →
      ∃ o, opOfByte c.op = some o ∧ step s = .refused (.command (.malformedOperand :: sessionReasons o s)))

/-- The other two kinds of step: an answer completes the READ in flight; with no event the state stays as it is. An answer
no READ waits for is refused: the model's choice (log entry 6). -/
def Obligations.StepTakesAnswersAndWaits : Prop :=
  ∀ s : State,
    (s.events = [] → step s = .next s) ∧
    (∀ r rest, s.events = .answer r :: rest → s.inst.phase = .waitTransport →
      step s = .next (completeRead r { s with events := rest })) ∧
    (∀ r rest, s.events = .answer r :: rest → s.inst.phase = .idle → step s = .refused .strayAnswer)

/-- A placed word is run by the very next step, from exactly the state it was placed in. -/
def Obligations.PlacedWordRunsNext : Prop :=
  ∀ (s : State) (nbits w : Nat) (i : Instr), decodeTableWord nbits w = some i →
    step (s.withFetchWord nbits w) = exec i s

/-! ### Session commands (40_session.md) -/

/-- R110: CREATE from a session that is not active opens one, with no bus transaction, and answers OK; it is refused when
`life = ACTIVE`. While a READ is in flight `ReadInFlight` is named beside it (R195, R235). In a state no run reaches (not
active, yet waiting for the transport) R195's table refuses CREATE: the model's choice over R110's pseudocode (log entry
7). -/
def Obligations.CreateOpensSession : Prop :=
  ∀ (t : Token) (s : State),
    (encode (.create t)).op = 0x01 ∧
    (s.inst.life ≠ .active → s.inst.phase = .idle →
      exec (.create t) s = .next
        { inst := { life := .active, devAddr := 0x12, transport := some t, phase := .idle, frame := none }
          events := s.events
          requests := s.requests
          responses := s.responses ++ [⟨.create t, .ok .none⟩]
          draws := s.draws }) ∧
    (s.inst.life = .active → s.inst.phase = .idle → exec (.create t) s = .refused (.command [.alreadyActive])) ∧
    (s.inst.life = .active → s.inst.phase = .waitTransport →
      exec (.create t) s = .refused (.command [.alreadyActive, .readInFlight])) ∧
    (s.inst.life ≠ .active → s.inst.phase = .waitTransport → exec (.create t) s = .refused (.command [.readInFlight]))

/-- R111: RELEASE of an active, idle session hands back the token CREATE stored and leaves no transport, with no bus
transaction; it is refused when not active, and while a READ is in flight. The model's choices: what `dev_addr` holds
afterwards is unspecified (R35), so the statement gives some value for it, and the counter of free values moves on (log entry
3); an active session without a token, which no run reaches, answers OK without one (log entry 15). -/
def Obligations.ReleaseHandsBackTransport : Prop :=
  ∀ s : State,
    (encode .release).op = 0x02 ∧
    (s.inst.life ≠ .active → ∃ rs, exec .release s = .refused (.command (.notActive :: rs))) ∧
    (s.inst.life = .active → s.inst.phase ≠ .idle → exec .release s = .refused (.command [.readInFlight])) ∧
    (s.inst.life = .active → s.inst.phase = .idle →
      ∃ (a : BusAddr) (p : Payload), exec .release s = .next
        { inst := { life := .released, devAddr := a, transport := none, phase := .idle, frame := s.inst.frame }
          events := s.events
          requests := s.requests
          responses := s.responses ++ [⟨.release, .ok p⟩]
          draws := s.draws + 1 } ∧
        (∀ t, s.inst.transport = some t → p = .token t) ∧ (s.inst.transport = none → p = .none))

/-- R112: READ's issue step zeroes the buffer, sends its own transport one request for 32 bytes from `dev_addr` and waits; its
completion step takes the transport's answer: an error is passed through, a wrong marker gives BAD_MAGIC, a right marker with a wrong
checksum gives BAD_CHECKSUM, and a valid frame gives a Reading of its twelve words. -/
def Obligations.ReadIssuesThenCompletes : Prop :=
  (encode .read).op = 0x03 ∧
  (∀ s : State, s.inst.life ≠ .active → ∃ rs, exec .read s = .refused (.command (.notActive :: rs))) ∧
  (∀ s : State, s.inst.life = .active → s.inst.phase ≠ .idle →
    exec .read s = .refused (.command [.readInFlight])) ∧
  (∀ s : State, s.inst.life = .active → s.inst.phase = .idle →
    exec .read s = .next
      { s with
        inst := { s.inst with frame := some (Vector.replicate 32 0), phase := .waitTransport }
        requests := s.requests ++ [⟨s.inst.transport, s.inst.devAddr, 32⟩] }) ∧
  (∀ (s : State) (r : Answer) (rest : List Event), s.inst.phase = .waitTransport → s.events = .answer r :: rest →
    ∃ e : Response,
      step s = .next
        { s with
          inst := { s.inst with frame := none, phase := .idle }
          events := rest
          responses := s.responses ++ [⟨.read, e⟩] } ∧
      (∀ c, r = .err c → e = .error (.transportError c)) ∧
      (∀ b, r = .ok b → ¬ HasMarker b → e = .error .badMagic) ∧
      (∀ b, r = .ok b → HasMarker b → ¬ HasChecksum b → e = .error .badChecksum) ∧
      (∀ b, r = .ok b → HasMarker b → HasChecksum b → ∃ rd : Reading, e = .ok (.reading rd) ∧ rd.ReadFrom b))

/-- R113: one bus request for each READ issued, none for any other step, and a READ ends only by an answer. -/
def Obligations.OneRequestPerRead : Prop :=
  ∀ s s' : State, step s = .next s' →
    ((∃ c rest, s.events = .issue c :: rest ∧ decode c = .ok .read ∧
        s'.requests = s.requests ++ [⟨s.inst.transport, s.inst.devAddr, 32⟩] ∧ s'.responses = s.responses) ∨
     ((∀ c rest, s.events = .issue c :: rest → decode c ≠ .ok .read) ∧ s'.requests = s.requests)) ∧
    (∀ e, s'.responses = s.responses ++ [⟨.read, e⟩] → ∃ a rest, s.events = .answer a :: rest)

/-- R114, R23: in every state that meets the invariant, READ asks the transport the instance owns for 32 bytes from address
`0x12`, and every request before it was for the same from some transport. -/
def Obligations.ReadAsksTheSensorFor32Bytes : Prop :=
  ∀ s : State, Inv s → s.inst.life = .active → s.inst.phase = .idle →
    ∃ tok t, s.inst.transport = some tok ∧ exec .read s = .next t ∧ t.requests = s.requests ++ [⟨some tok, 0x12, 32⟩] ∧
      ∀ q ∈ t.requests, q.transport.isSome = true ∧ q.addr = 0x12 ∧ q.len = 32

/-- R116: on `Ok(b)` the buffer holds `b` at every offset, whatever it held before, and nothing else changes. -/
def Obligations.FillReplacesEveryByte : Prop :=
  ∀ (s : State) (b : Frame),
    (∃ f : Frame, (s.fillFrame b).inst.frame = some f ∧ ∀ i : Fin 32, f[i] = b[i]) ∧
    s.fillFrame b = { s with inst := { s.inst with frame := some b } }

/-- R117: on `Err(c)` the response is `(TRANSPORT_ERROR, c)` with that very cause, whatever the buffer holds; the buffer is
discarded. -/
def Obligations.TransportErrorPassesThrough : Prop :=
  ∀ (s : State) (c : CauseId) (rest : List Event), s.inst.phase = .waitTransport → s.events = .answer (.err c) :: rest →
    ∀ buffer : Option Frame, step { s with inst := { s.inst with frame := buffer } } = .next
      { s with
        inst := { s.inst with frame := none, phase := .idle }
        events := rest
        responses := s.responses ++ [⟨.read, .error (.transportError c)⟩] } ∧
      (Response.error (.transportError c)).code = 1 ∧ (Response.error (.transportError c)).payload = .cause c

/-- R118: the error with which VALIDATE answers a frame is the error with which READ answers it. -/
def Obligations.ValidatorErrorPassesThrough : Prop :=
  ∀ (s s' : State) (b : Frame) (e : Error) (rest : List Event),
    s.inst.phase = .waitTransport → s.events = .answer (.ok b) :: rest →
    exec (.validate b) s = .next s' → s'.responses = s.responses ++ [⟨.validate b, .error e⟩] →
    ∃ t, step s = .next t ∧ t.responses = s.responses ++ [⟨.read, .error e⟩]

/-- R28: a READ leaves no trace in the instance. From an active idle session, issue and completion, with any answer, give
back the very instance they began with. -/
def Obligations.ReadLeavesNoTrace : Prop :=
  ∀ (s : State) (c : Command) (r : Answer) (rest : List Event),
    s.inst.life = .active → s.inst.phase = .idle → s.inst.frame = none →
    decode c = .ok .read → s.events = .issue c :: .answer r :: rest →
    ∃ t, Sys2Proof.core.run 2 s = .next t ∧ t.inst = s.inst ∧ t.events = rest ∧ t.draws = s.draws ∧
      t.requests = s.requests ++ [⟨s.inst.transport, s.inst.devAddr, 32⟩] ∧
      ∃ e, t.responses = s.responses ++ [⟨.read, e⟩]

/-! ### State (10_state.md) -/

/-- R21: a step that takes CREATE writes ACTIVE, one that takes RELEASE writes RELEASED, and one that takes neither leaves
`life` as it is; READ and RELEASE require ACTIVE. -/
def Obligations.OnlyCreateAndReleaseWriteLife : Prop :=
  (∀ s s' : State, step s = .next s' →
    (∃ c rest t, s.events = .issue c :: rest ∧ decode c = .ok (.create t) ∧ s'.inst.life = .active) ∨
    (∃ c rest, s.events = .issue c :: rest ∧ decode c = .ok .release ∧ s'.inst.life = .released) ∨
    ((∀ c rest i, s.events = .issue c :: rest → decode c = .ok i → i.op ≠ .create ∧ i.op ≠ .release) ∧
      s'.inst.life = s.inst.life)) ∧
  (∀ s s' : State, ∀ i, exec i s = .next s' → i = .read ∨ i = .release → s.inst.life = .active)

/-- R22, R23: while a session is active its address and its transport do not change. -/
def Obligations.ActiveSessionKeepsAddressAndTransport : Prop :=
  ∀ s s' : State, step s = .next s' → s.inst.life = .active → s'.inst.life = .active →
    s'.inst.devAddr = s.inst.devAddr ∧ s'.inst.transport = s.inst.transport

/-- R24: a step that takes READ writes WAIT_TRANSPORT, one that takes the transport's answer writes IDLE, and one that takes
neither leaves `phase` as it is; while waiting, CREATE, RELEASE and READ are refused. -/
def Obligations.OnlyReadMovesPhase : Prop :=
  (∀ s s' : State, step s = .next s' →
    (∃ c rest, s.events = .issue c :: rest ∧ decode c = .ok .read ∧
      s.inst.phase = .idle ∧ s'.inst.phase = .waitTransport) ∨
    (∃ r rest, s.events = .answer r :: rest ∧ s.inst.phase = .waitTransport ∧ s'.inst.phase = .idle) ∨
    ((∀ c rest, s.events = .issue c :: rest → decode c ≠ .ok .read) ∧ (∀ r rest, s.events ≠ .answer r :: rest) ∧
      s'.inst.phase = s.inst.phase)) ∧
  (∀ (s : State) (i : Instr), s.inst.phase = .waitTransport → isPure i = false → ∃ r, exec i s = .refused r)

/-- Every step keeps the invariant: of this machine, and of the machine with any cause type and any `DEV_ADDR` (R7). -/
def Obligations.StepKeepsInvariant : Prop :=
  (∀ s s' : State, Inv s → step s = .next s' → Inv s') ∧
  (∀ (Cause : Type) (addr : BusAddr) (s s' : State Cause), Inv s addr → stepAt addr s = .next s' → Inv s' addr)

/-- The invariant holds before the first CREATE. -/
def Obligations.ResetMeetsInvariant : Prop := Inv State.reset

/-- R231: before any CREATE there is no session, no transport, no READ and no frame; CREATE and the pure commands have
meaning; READ and RELEASE are refused. Nothing is said of `dev_addr`, which is unspecified (log entry 2). -/
def Obligations.BeforeFirstCreate : Prop :=
  State.reset.inst.life = .none ∧ State.reset.inst.transport = none ∧ State.reset.inst.phase = .idle ∧
  State.reset.inst.frame = none ∧
  exec .read State.reset = .refused (.command [.notActive]) ∧
  exec .release State.reset = .refused (.command [.notActive]) ∧
  ∀ i : Instr, i ≠ .read → i ≠ .release → ∃ s', exec i State.reset = .next s'

/-! ### Outcomes (60_exceptions.md) -/

/-- R195: the reasons for which a command is refused are those of the table's rows that apply, all of them; with none the
command runs; a refused command changes no state, has no response and sets the mark. That READ or RELEASE with an operand is
malformed is the model's reading (log entry 8), and so is that the table's rows decide where the pseudocode of a command
stops at the first (log entry 7). -/
def Obligations.RefusedExactlyWhen : Prop :=
  ∀ (s : State) (c : Command) (rest : List Event), s.events = .issue c :: rest →
    ∃ rs : List Reason,
      (.unassignedOpcode ∈ rs ↔ c.opAssigned = false) ∧
      (.malformedOperand ∈ rs ↔ c.opAssigned = true ∧ c.operandFits = false) ∧
      (.alreadyActive ∈ rs ↔ c.op = 0x01 ∧ s.inst.life = .active) ∧
      (.notActive ∈ rs ↔ (c.op = 0x02 ∨ c.op = 0x03) ∧ s.inst.life ≠ .active) ∧
      (.readInFlight ∈ rs ↔ (c.op = 0x01 ∨ c.op = 0x02 ∨ c.op = 0x03) ∧ s.inst.phase = .waitTransport) ∧
      (rs = [] → ∃ s', step s = .next s') ∧
      (rs ≠ [] → step s = .refused (.command rs) ∧
        ∀ m o, Run.step ⟨s, m, o⟩ = ⟨{ s with events := rest }, true, o⟩)

/-- R235: while a READ is in flight CREATE, RELEASE and READ are refused with `ReadInFlight` among the reasons; the command
is used up, neither queued nor overlapped, and leaves the mark. -/
def Obligations.OneReadAtATime : Prop :=
  ∀ (s : State) (c : Command) (i : Instr) (rest : List Event), s.inst.phase = .waitTransport →
    s.events = .issue c :: rest → decode c = .ok i → i.op = .create ∨ i.op = .release ∨ i.op = .read →
    ∃ rs, step s = .refused (.command rs) ∧ .readInFlight ∈ rs ∧
      ∀ m o, Run.step ⟨s, m, o⟩ = ⟨{ s with events := rest }, true, o⟩

/-- R191: for any cause type, an error a step answers is one of the three, each only from the commands that raise it, and a
cause is the one the transport gave: no command invents an error. -/
def Obligations.ErrorsAreTheClosedSet : Prop :=
  ∀ (Cause : Type) (addr : BusAddr) (s s' : State Cause) (cmd : Instr) (e : Error Cause), stepAt addr s = .next s' →
    s'.responses = s.responses ++ [⟨cmd, .error e⟩] →
    (∃ c rest, e = .transportError c ∧ cmd = .read ∧ s.events = .answer (.err c) :: rest) ∨
    (e = .badMagic ∧ (cmd.op = .read ∨ cmd.op = .validate ∨ cmd.op = .chksync)) ∨
    (e = .badChecksum ∧ (cmd.op = .read ∨ cmd.op = .validate ∨ cmd.op = .chksum))

/-- R195, R239: no later step clears the mark, and a run that contains a refusal has no observation. -/
def Obligations.RefusalMarkStays : Prop :=
  ∀ (n : Nat) (r : Run), r.refusalMark = true →
    (Run.steps n r).refusalMark = true ∧ (Run.steps n r).observation = none

/-- R239: what a run observes is its responses: those in the state are the ones it began with and then those. That both are in
the order of production is the model's choice (log entry 17). -/
def Obligations.RunObservesEveryResponse : Prop :=
  ∀ (n : Nat) (s : State),
    (Run.steps n (Run.start s)).state.responses =
      s.responses ++ (Run.steps n (Run.start s)).observed.map Prod.fst

/-- R84: the code and the payload of each kind of response, for any cause type; no code above 3 is produced. -/
def Obligations.ResponseCodes : Prop :=
  ∀ Cause : Type,
    (∀ p : Payload Cause, (Response.ok p).code = 0 ∧ (Response.ok p).payload = p) ∧
    (∀ c : Cause, (Response.error (.transportError c)).code = 1 ∧
      (Response.error (.transportError c)).payload = .cause c) ∧
    (∀ r : Response Cause, r = .error .badMagic → r.code = 2 ∧ r.payload = .none) ∧
    (∀ r : Response Cause, r = .error .badChecksum → r.code = 3 ∧ r.payload = .none) ∧
    (∀ r : Response Cause, r.code.toNat ≤ 3)

/-- R190: a step produces at most one response; a command other than READ that is run produces exactly one, its own; an
answer produces exactly one, READ's. -/
def Obligations.OneResponsePerCommand : Prop :=
  (∀ (i : Instr) (s s' : State), exec i s = .next s' →
    (i = .read ∧ s'.responses = s.responses) ∨ (i ≠ .read ∧ ∃ e, s'.responses = s.responses ++ [⟨i, e⟩])) ∧
  (∀ (s s' : State) (r : Answer) (rest : List Event), s.events = .answer r :: rest → step s = .next s' →
    ∃ e, s'.responses = s.responses ++ [⟨.read, e⟩])

/-- R197: when READ returns an error the buffer is discarded, `phase` is IDLE, `life`, `dev_addr` and `transport` are
unchanged, no Reading is returned, and the response carries the code and, for a transport error, the cause; an erroring
pure command changes no state. -/
def Obligations.ErrorReturnIsPrecise : Prop :=
  (∀ (s s' : State) (r : Answer) (rest : List Event) (e : Error), s.events = .answer r :: rest → step s = .next s' →
    s'.responses = s.responses ++ [⟨.read, .error e⟩] →
    s'.inst = { s.inst with frame := none, phase := .idle } ∧ s'.events = rest ∧ s'.requests = s.requests ∧
    s'.draws = s.draws ∧ (∀ rd, (Response.error e).payload ≠ .reading rd) ∧
    (∀ c, r = .err c ↔ (Response.error e).payload = .cause c)) ∧
  (∀ (i : Instr) (s s' : State) (e : Error), isPure i = true → exec i s = .next s' →
    s'.responses = s.responses ++ [⟨i, .error e⟩] →
    s'.inst = s.inst ∧ s'.events = s.events ∧ s'.requests = s.requests ∧ s'.draws = s.draws)

/-- R208: a READ whose transport never answers waits for ever. While no answer comes, any number of steps that are taken
leave the instance waiting and end no READ; steps that take pure commands are always taken, and CREATE, RELEASE and READ
are refused. -/
def Obligations.UnansweredReadWaitsForever : Prop :=
  ∀ (n : Nat) (s : State), s.inst.phase = .waitTransport → (∀ a, Event.answer a ∉ s.events) →
    (∀ s', Sys2Proof.core.run n s = .next s' →
      s'.inst = s.inst ∧ s'.requests = s.requests ∧
      s'.responses.filter Ended.isRead = s.responses.filter Ended.isRead) ∧
    ((∀ c, Event.issue c ∈ s.events → ∃ i, decode c = .ok i ∧ isPure i = true) →
      ∃ s', Sys2Proof.core.run n s = .next s' ∧ s'.events = s.events.drop n) ∧
    (∀ i, isPure i = false → ∃ r, exec i s = .refused r)

/-- R236: after RELEASE, READ and RELEASE are refused, and the session stays released until a CREATE. -/
def Obligations.NoUseAfterRelease : Prop :=
  (∀ s s' : State, exec .release s = .next s' →
    s'.inst.life = .released ∧ exec .read s' = .refused (.command [.notActive]) ∧
      exec .release s' = .refused (.command [.notActive])) ∧
  (∀ s s' : State, s.inst.life = .released → step s = .next s' →
    s'.inst.life = .released ∨ ∃ c rest t, s.events = .issue c :: rest ∧ decode c = .ok (.create t))

/-! ### Validator (41_validator.md) -/

/-- R140: VALIDATE answers BAD_MAGIC for a wrong marker, whatever the checksum; BAD_CHECKSUM for a right marker with a wrong
checksum; OK for both right. Nothing but the response changes. -/
def Obligations.ValidateChecksInOrder : Prop :=
  ∀ (f : Frame) (s : State),
    (encode (.validate f)).op = 0x10 ∧
    ∃ e : Response, exec (.validate f) s = .next { s with responses := s.responses ++ [⟨.validate f, e⟩] } ∧
      (¬ HasMarker f → e = .error .badMagic) ∧
      (HasMarker f → ¬ HasChecksum f → e = .error .badChecksum) ∧
      (HasMarker f → HasChecksum f → e = .ok .none)

/-- R141: CHKSYNC answers by the two marker bytes alone. -/
def Obligations.ChksyncChecksMarkerAlone : Prop :=
  ∀ (f : Frame) (s : State),
    (encode (.chksync f)).op = 0x11 ∧
    ∃ e : Response, exec (.chksync f) s = .next { s with responses := s.responses ++ [⟨.chksync f, e⟩] } ∧
      (HasMarker f → e = .ok .none) ∧ (¬ HasMarker f → e = .error .badMagic)

/-- R142: CHKSUM answers by the checksum alone, whatever the marker. -/
def Obligations.ChksumChecksSumAlone : Prop :=
  ∀ (f : Frame) (s : State),
    (encode (.chksum f)).op = 0x12 ∧
    ∃ e : Response, exec (.chksum f) s = .next { s with responses := s.responses ++ [⟨.chksum f, e⟩] } ∧
      (HasChecksum f → e = .ok .none) ∧ (¬ HasChecksum f → e = .error .badChecksum)

/-- R143: `Sum16` is the sum of bytes 0 to 29 modulo 65536. -/
def Obligations.SumIsByteSumModulo : Prop :=
  ∀ f : Frame, (sum16 f).toNat = byteSum f % 65536

/-- R144: the sum is at most 7650, so it is exact; with a valid marker it lies from 143 to 7283, so a frame with a valid
marker and a checksum field outside that range never passes. -/
def Obligations.SumNeverWraps : Prop :=
  ∀ f : Frame, (sum16 f).toNat = byteSum f ∧ byteSum f ≤ 7650 ∧
    (HasMarker f → 0x008F ≤ (sum16 f).toNat ∧ (sum16 f).toNat ≤ 0x1C73) ∧
    (HasMarker f → wordValue f 30 < 0x008F ∨ 0x1C73 < wordValue f 30 → ¬ HasChecksum f ∧ sumOK f = false)

/-- R147: a 30-byte prefix with the marker, followed by its checksum, validates; and a frame validates exactly when its
marker is right and its last two bytes are the checksum of the first thirty. -/
def Obligations.ChecksumRoundTrip : Prop :=
  (∀ p : Vector Byte 30, p[0] = 0x42 → p[1] = 0x4D → validate (appendChecksum p) = .ok) ∧
  (∀ f : Frame, validate f = .ok ↔ HasMarker f ∧ frameChecksumBytes f = checksum16 (framePrefix f))

/-- R148: bytes 0 to 29 with the same total, a permutation among them, cannot be told apart by the checksum. -/
def Obligations.ChecksumSeesOnlyTheTotal : Prop :=
  ∀ f g : Frame, sumOK f = true → f[30] = g[30] → f[31] = g[31] →
    (byteSum f = byteSum g → sumOK g = true) ∧ ((f.toList.take 30).Perm (g.toList.take 30) → sumOK g = true)

/-! ### Decoder and frame reads (42_decoder.md, 20_memory.md) -/

/-- R54: the byte at the lower offset is bits 15 to 8 of the word, the next byte is bits 7 to 0. -/
def Obligations.FrameWordIsBigEndian : Prop :=
  ∀ (f : Frame) (o : Nat) (h : o + 1 < 32),
    (frameWord f o h).toNat = wordValue f o h ∧
    (frameWord f o h).extractLsb' 8 8 = f[o]'(Nat.lt_of_succ_lt h) ∧ (frameWord f o h).extractLsb' 0 8 = f[o + 1]

/-- R160: DECODE answers OK with the twelve words of its frame, valid or not; nothing else changes. -/
def Obligations.DecodeAnswersTwelveWords : Prop :=
  ∀ (f : Frame) (s : State),
    (encode (.decode f)).op = 0x20 ∧
    ∃ w : FieldWords, w.ReadFrom f ∧
      exec (.decode f) s = .next { s with responses := s.responses ++ [⟨.decode f, .ok (.fieldWords w)⟩] }

/-- R161 to R166: the six mass-concentration extracts. -/
def Obligations.MassExtractsAnswerTheirWord : Prop :=
  ExtractsWord .decPm1 0x30 4 ∧ ExtractsWord .decPm2_5 0x31 6 ∧ ExtractsWord .decPm10 0x32 8 ∧
  ExtractsWord .decEnvPm1 0x33 10 ∧ ExtractsWord .decEnvPm2_5 0x34 12 ∧ ExtractsWord .decEnvPm10 0x35 14

/-- R167 to R172: the six particle-count extracts. -/
def Obligations.CountExtractsAnswerTheirWord : Prop :=
  ExtractsWord .decPc0_3 0x36 16 ∧ ExtractsWord .decPc0_5 0x37 18 ∧ ExtractsWord .decPc1 0x38 20 ∧
  ExtractsWord .decPc2_5 0x39 22 ∧ ExtractsWord .decPc5 0x3A 24 ∧ ExtractsWord .decPc10 0x3B 26

/-- R175: two frames decode alike exactly when they agree on offsets 4 to 27. -/
def Obligations.DecodeSeesExactlyTheFieldBytes : Prop :=
  ∀ f g : Frame, decodeFrame f = decodeFrame g ↔ ∀ i : Fin 32, 4 ≤ i.val → i.val < 28 → f[i] = g[i]

/-- R88: the length field and the reserved bytes change no decoded field and no marker check, and enter the sum like every
other byte; whatever they hold, a checksum exists with which the frame is valid. -/
def Obligations.UnusedBytesAreOnlySummed : Prop :=
  (∀ f g : Frame, (∀ i : Fin 32, i.val ≠ 2 → i.val ≠ 3 → i.val ≠ 28 → i.val ≠ 29 → f[i] = g[i]) →
    decodeFrame f = decodeFrame g ∧ syncOK f = syncOK g ∧
    (sum16 f).toNat + g[2].toNat + g[3].toNat + g[28].toNat + g[29].toNat =
      (sum16 g).toNat + f[2].toNat + f[3].toNat + f[28].toNat + f[29].toNat) ∧
  (∀ f : Frame, HasMarker f → ∃ g : Frame, validate g = .ok ∧ ∀ i : Fin 32, i.val < 30 → g[i] = f[i])

/-- R174: a response with a Reading is READ's, to an answer whose frame passed both checks, and its fields are that frame's
words. -/
def Obligations.ReadingOnlyFromValidatedFrame : Prop :=
  ∀ (s s' : State) (cmd : Instr) (rd : Reading), step s = .next s' →
    s'.responses = s.responses ++ [⟨cmd, .ok (.reading rd)⟩] →
    cmd = .read ∧ s.inst.phase = .waitTransport ∧
    ∃ f rest, s.events = .answer (.ok f) :: rest ∧ HasMarker f ∧ HasChecksum f ∧ rd.ReadFrom f

/-! ### Whole-machine rules -/

/-- R120, R237: a pure command runs in every state; its response is a function of the command alone, and nothing but the
list of responses changes: no element of the instance, no byte of its frame buffer, no request. -/
def Obligations.PureCommandsOnlyRespond : Prop :=
  ∀ i : Instr, isPure i = true → ∃ e : Response, ∀ s : State,
    exec i s = .next { s with responses := s.responses ++ [⟨i, e⟩] }

/-- R237: a READ's response depends only on its own transport answer. -/
def Obligations.ReadResponseIsFunctionOfAnswer : Prop :=
  ∀ r : Answer, ∃ e : Response, ∀ (s : State) (rest : List Event),
    s.inst.phase = .waitTransport → s.events = .answer r :: rest →
    ∃ t, step s = .next t ∧ t.responses = s.responses ++ [⟨.read, e⟩]

/-- R237: a pure command before or after the answer to a READ: the same two responses, the same instance and requests. The
responses are listed in the order of production (log entry 17). -/
def Obligations.PureCommandCommutesWithAnswer : Prop :=
  ∀ (s : State) (c : Command) (i : Instr) (r : Answer) (rest : List Event),
    s.inst.phase = .waitTransport → decode c = .ok i → isPure i = true →
    ∃ t u e e',
      Sys2Proof.core.run 2 { s with events := .issue c :: .answer r :: rest } = .next t ∧
      Sys2Proof.core.run 2 { s with events := .answer r :: .issue c :: rest } = .next u ∧
      t.inst = u.inst ∧ t.requests = u.requests ∧ t.events = rest ∧ u.events = rest ∧ t.draws = u.draws ∧
      t.responses = s.responses ++ [⟨i, e⟩, ⟨.read, e'⟩] ∧ u.responses = s.responses ++ [⟨.read, e'⟩, ⟨i, e⟩]

/-- R23, OPEN-1: the core never inspects a token or a cause. Renaming them all, in any way, and then taking a step is taking
the step and then renaming them; in the machine for any `DEV_ADDR` the renaming may lead to another cause type. -/
def Obligations.StepCommutesWithRenaming : Prop :=
  (∀ (ρ : Renaming) (s : State), step (s.rename ρ) = renameResult ρ (step s)) ∧
  (∀ (C D : Type) (addr : BusAddr) (ρ : Renaming C D) (s : State C),
    stepAt addr (s.rename ρ) = renameResult ρ (stepAt addr s))

/-! ### The parameters of R7 -/

/-- R7, D17: this machine is the parametric machine at `DEV_ADDR = 0x12`. -/
def Obligations.ThisMachineIsAtAddress0x12 : Prop :=
  ∀ s : State, stepAt 0x12 s = step s ∧ ∀ i, execAt 0x12 i s = exec i s

/-- R7, D17, R22, R114: for any cause type and any `DEV_ADDR`, CREATE gives an instance that address, and its READ asks the
token CREATE brought for 32 bytes from that address. -/
def Obligations.CreateFixesDevAddrParameter : Prop :=
  ∀ (Cause : Type) (addr : BusAddr) (t : Token) (s : State Cause), s.inst.life ≠ .active → s.inst.phase = .idle →
    ∃ u v, execAt addr (.create t) s = .next u ∧ u.inst = ⟨.active, addr, some t, .idle, none⟩ ∧
      u.requests = s.requests ∧ execAt addr .read u = .next v ∧ v.inst.devAddr = addr ∧
      v.requests = s.requests ++ [⟨some t, addr, 32⟩]
end

