-- ==== Sys2Proof/Laws/Decode.lean ====
section
/-! SUPPORT. Laws/Decode.lean: reading operands. -/

namespace Sys2Proof

/-- A byte string is a frame exactly when it is that frame's bytes. -/
theorem Frame.ofBytes_eq_some {bs : List Byte} {f : Frame} : Frame.ofBytes bs = some f ↔ bs = f.toList := by
  unfold Frame.ofBytes
  constructor
  · intro h
    split at h
    · cases h; rfl
    · cases h
  · rintro rfl
    rw [dif_pos f.length_toList]
    rfl

@[simp] theorem Frame.ofBytes_toList (f : Frame) : Frame.ofBytes f.toList = some f := Frame.ofBytes_eq_some.mpr rfl

/-- A byte string is no frame exactly when it has not 32 bytes. -/
theorem Frame.ofBytes_eq_none {bs : List Byte} : Frame.ofBytes bs = none ↔ bs.length ≠ 32 := by
  simp [Frame.ofBytes]

/-- The frame operand is the bytes of a frame. -/
theorem frameOperand_ok {x : Operand} {f : Frame} : frameOperand x = .ok f ↔ x = .bytes f.toList := by
  cases x with
  | nothing => simp [frameOperand]
  | token t => simp [frameOperand]
  | bytes bs =>
    simp only [frameOperand]
    cases h : Frame.ofBytes bs with
    | none =>
      have : bs ≠ f.toList := fun e => by simp [e] at h
      simp [this]
    | some g =>
      rw [Frame.ofBytes_eq_some] at h
      subst h
      simp [Vector.toList_inj]

/-- The token operand is a token. -/
theorem tokenOperand_ok {x : Operand} {t : Token} : tokenOperand x = .ok t ↔ x = .token t := by
  cases x <;> simp [tokenOperand]

/-- No operand is no operand. -/
theorem noOperand_ok {x : Operand} {i j : Instr} : noOperand i x = .ok j ↔ x = .nothing ∧ i = j := by
  cases x <;> simp [noOperand]

/-- What decodes has an assigned opcode, and is assembled from it. -/
theorem decode_ok {c : Command} {i : Instr} (h : decode c = .ok i) :
    ∃ o, opOfByte c.op = some o ∧ assembleInstr o c.operand = .ok i := by
  unfold decode at h
  split at h
  · cases h
  · exact ⟨_, ‹_›, h⟩

end Sys2Proof
end

