-- ==== Sys2Proof/Laws/Frame.lean ====
section
/-! SUPPORT. Laws/Frame.lean: frames built from a prefix and its last two bytes (R9, R87). -/

namespace Sys2Proof.Machine

@[simp] theorem joinFrame_toList (p : Vector Byte 30) (t : Vector Byte 2) :
    (joinFrame p t).toList = p.toList ++ t.toList := rfl

/-- Each byte of a joined frame comes from the prefix, or from the two bytes after it. -/
theorem joinFrame_getElem (p : Vector Byte 30) (t : Vector Byte 2) (i : Nat) (h : i < 32) :
    (joinFrame p t)[i] = if h30 : i < 30 then p[i] else t[i - 30] := by
  have hl : (joinFrame p t)[i] = (p.toList ++ t.toList)[i]'(by simpa using h) := rfl
  rw [hl, List.getElem_append]
  simp

/-- The first 30 bytes of a joined frame are the prefix. -/
@[simp] theorem framePrefix_joinFrame (p : Vector Byte 30) (t : Vector Byte 2) : framePrefix (joinFrame p t) = p := by
  apply Vector.ext
  intro i hi
  simp [framePrefix, joinFrame_getElem]

end Sys2Proof.Machine
end

