-- ==== Sys2Proof/Laws/State.lean ====
section
/-! SUPPORT. Laws/State.lean: for each operation of Machine/Ops.lean, what every field of the state is after it. -/

namespace Sys2Proof.Machine

variable {Cause : Type}

@[simp] theorem State.respond_inst (s : State Cause) (c : Instr) (r : Response Cause) :
    (s.respond c r).inst = s.inst := rfl
@[simp] theorem State.respond_events (s : State Cause) (c : Instr) (r : Response Cause) :
    (s.respond c r).events = s.events := rfl
@[simp] theorem State.respond_requests (s : State Cause) (c : Instr) (r : Response Cause) :
    (s.respond c r).requests = s.requests := rfl
@[simp] theorem State.respond_responses (s : State Cause) (c : Instr) (r : Response Cause) :
    (s.respond c r).responses = s.responses ++ [⟨c, r⟩] := rfl
@[simp] theorem State.respond_draws (s : State Cause) (c : Instr) (r : Response Cause) :
    (s.respond c r).draws = s.draws := rfl

@[simp] theorem State.raiseError_inst (s : State Cause) (c : Instr) (e : Error Cause) :
    (s.raiseError c e).inst = s.inst := rfl
@[simp] theorem State.raiseError_events (s : State Cause) (c : Instr) (e : Error Cause) :
    (s.raiseError c e).events = s.events := rfl
@[simp] theorem State.raiseError_requests (s : State Cause) (c : Instr) (e : Error Cause) :
    (s.raiseError c e).requests = s.requests := rfl
@[simp] theorem State.raiseError_responses (s : State Cause) (c : Instr) (e : Error Cause) :
    (s.raiseError c e).responses = s.responses ++ [⟨c, .error e⟩] := rfl
@[simp] theorem State.raiseError_draws (s : State Cause) (c : Instr) (e : Error Cause) :
    (s.raiseError c e).draws = s.draws := rfl

@[simp] theorem State.respondWord_inst (s : State Cause) (c : Instr) (w : Word) :
    (s.respondWord c w).inst = s.inst := rfl
@[simp] theorem State.respondWord_events (s : State Cause) (c : Instr) (w : Word) :
    (s.respondWord c w).events = s.events := rfl
@[simp] theorem State.respondWord_requests (s : State Cause) (c : Instr) (w : Word) :
    (s.respondWord c w).requests = s.requests := rfl
@[simp] theorem State.respondWord_responses (s : State Cause) (c : Instr) (w : Word) :
    (s.respondWord c w).responses = s.responses ++ [⟨c, .ok (.word w)⟩] := rfl
@[simp] theorem State.respondWord_draws (s : State Cause) (c : Instr) (w : Word) :
    (s.respondWord c w).draws = s.draws := rfl

@[simp] theorem State.fillFrame_inst (s : State Cause) (b : Frame) :
    (s.fillFrame b).inst = { s.inst with frame := some b } := rfl
@[simp] theorem State.fillFrame_events (s : State Cause) (b : Frame) :
    (s.fillFrame b).events = s.events := rfl
@[simp] theorem State.fillFrame_requests (s : State Cause) (b : Frame) :
    (s.fillFrame b).requests = s.requests := rfl
@[simp] theorem State.fillFrame_responses (s : State Cause) (b : Frame) :
    (s.fillFrame b).responses = s.responses := rfl
@[simp] theorem State.fillFrame_draws (s : State Cause) (b : Frame) :
    (s.fillFrame b).draws = s.draws := rfl

@[simp] theorem State.setPhase_inst (s : State Cause) (p : Phase) :
    (s.setPhase p).inst = { s.inst with phase := p } := rfl
@[simp] theorem State.setPhase_events (s : State Cause) (p : Phase) :
    (s.setPhase p).events = s.events := rfl
@[simp] theorem State.setPhase_requests (s : State Cause) (p : Phase) :
    (s.setPhase p).requests = s.requests := rfl
@[simp] theorem State.setPhase_responses (s : State Cause) (p : Phase) :
    (s.setPhase p).responses = s.responses := rfl
@[simp] theorem State.setPhase_draws (s : State Cause) (p : Phase) :
    (s.setPhase p).draws = s.draws := rfl

@[simp] theorem State.endRead_inst (s : State Cause) :
    (s.endRead).inst = { s.inst with frame := none, phase := .idle } := rfl
@[simp] theorem State.endRead_events (s : State Cause) :
    (s.endRead).events = s.events := rfl
@[simp] theorem State.endRead_requests (s : State Cause) :
    (s.endRead).requests = s.requests := rfl
@[simp] theorem State.endRead_responses (s : State Cause) :
    (s.endRead).responses = s.responses := rfl
@[simp] theorem State.endRead_draws (s : State Cause) :
    (s.endRead).draws = s.draws := rfl

@[simp] theorem State.busRead_inst (s : State Cause) (n : Nat) :
    (s.busRead n).inst = s.inst := rfl
@[simp] theorem State.busRead_events (s : State Cause) (n : Nat) :
    (s.busRead n).events = s.events := rfl
@[simp] theorem State.busRead_requests (s : State Cause) (n : Nat) :
    (s.busRead n).requests = s.requests ++ [⟨s.inst.transport, s.inst.devAddr, n⟩] := rfl
@[simp] theorem State.busRead_responses (s : State Cause) (n : Nat) :
    (s.busRead n).responses = s.responses := rfl
@[simp] theorem State.busRead_draws (s : State Cause) (n : Nat) :
    (s.busRead n).draws = s.draws := rfl

@[simp] theorem State.openSession_inst (s : State Cause) (a : BusAddr) (t : Token) :
    (s.openSession a t).inst = ⟨.active, a, some t, .idle, none⟩ := rfl
@[simp] theorem State.openSession_events (s : State Cause) (a : BusAddr) (t : Token) :
    (s.openSession a t).events = s.events := rfl
@[simp] theorem State.openSession_requests (s : State Cause) (a : BusAddr) (t : Token) :
    (s.openSession a t).requests = s.requests := rfl
@[simp] theorem State.openSession_responses (s : State Cause) (a : BusAddr) (t : Token) :
    (s.openSession a t).responses = s.responses := rfl
@[simp] theorem State.openSession_draws (s : State Cause) (a : BusAddr) (t : Token) :
    (s.openSession a t).draws = s.draws := rfl

@[simp] theorem State.closeSession_inst (s : State Cause) :
    (s.closeSession).inst = ⟨.released, Config.unspecifiedDevAddr s.draws, none, s.inst.phase, s.inst.frame⟩ := rfl
@[simp] theorem State.closeSession_events (s : State Cause) :
    (s.closeSession).events = s.events := rfl
@[simp] theorem State.closeSession_requests (s : State Cause) :
    (s.closeSession).requests = s.requests := rfl
@[simp] theorem State.closeSession_responses (s : State Cause) :
    (s.closeSession).responses = s.responses := rfl
@[simp] theorem State.closeSession_draws (s : State Cause) :
    (s.closeSession).draws = s.draws + 1 := rfl

@[simp] theorem State.respondVerdict_inst (s : State Cause) (c : Instr) (v : Verdict) :
    (s.respondVerdict c v).inst = s.inst := by cases v <;> rfl
@[simp] theorem State.respondVerdict_events (s : State Cause) (c : Instr) (v : Verdict) :
    (s.respondVerdict c v).events = s.events := by cases v <;> rfl
@[simp] theorem State.respondVerdict_requests (s : State Cause) (c : Instr) (v : Verdict) :
    (s.respondVerdict c v).requests = s.requests := by cases v <;> rfl
@[simp] theorem State.respondVerdict_draws (s : State Cause) (c : Instr) (v : Verdict) :
    (s.respondVerdict c v).draws = s.draws := by cases v <;> rfl

/-- After a fill the buffer holds exactly what was filled in (R58). -/
@[simp] theorem State.bufferedFrame_fillFrame (s : State Cause) (b : Frame) : (s.fillFrame b).bufferedFrame = b := rfl

/-- Only the read sequencer's end can be seen after a fill: the buffer is discarded (R25). -/
@[simp] theorem State.endRead_fillFrame (s : State Cause) (b : Frame) : (s.fillFrame b).endRead = s.endRead := rfl

end Sys2Proof.Machine
end

