-- ==== Sys2Proof/Laws/Ops.lean ====
section
/-! SUPPORT. Laws/Ops.lean: what each shared operation, `exec` and `step` can do, said once; the induction along a run. -/

namespace Sys2Proof.Machine

variable {Cause : Type}

/-! ### Refusals -/

/-- Any reason excludes an attempt; without one it has its effect. -/
theorem attempt_next {o : Op} {s s' t : State Cause} :
    attempt o s s' = .next t ↔ sessionReasons o s = [] ∧ t = s' := by
  unfold attempt
  cases h : sessionReasons o s with
  | nil => simp [eq_comm]
  | cons r rs => simp

/-- An attempt with nothing against it has its effect. -/
theorem attempt_of_nil {o : Op} {s s' : State Cause} (h : sessionReasons o s = []) : attempt o s s' = .next s' :=
  attempt_next.mpr ⟨h, rfl⟩

/-- An attempt with something against it is refused for all of that. -/
theorem attempt_of_ne_nil {o : Op} {s s' : State Cause} (h : sessionReasons o s ≠ []) :
    attempt o s s' = .refused (.command (sessionReasons o s)) := by
  unfold attempt
  cases hr : sessionReasons o s with
  | nil => exact absurd hr h
  | cons r rs => rfl

/-- The session's reasons are the rows of R195's table about the instance's state. -/
theorem mem_sessionReasons {o : Op} {s : State Cause} {r : Reason} :
    r ∈ sessionReasons o s ↔ excludes o s r = true := by
  cases r <;> simp [sessionReasons, excludes]

/-- Nothing is against CREATE exactly when no session is active and no READ is in flight. -/
theorem sessionReasons_create {s : State Cause} :
    sessionReasons .create s = [] ↔ s.inst.life ≠ .active ∧ s.inst.phase = .idle := by
  cases hl : s.inst.life <;> cases hp : s.inst.phase <;> simp [sessionReasons, excludes, hl, hp]

/-- Nothing is against RELEASE exactly when a session is active and no READ is in flight. -/
theorem sessionReasons_release {s : State Cause} :
    sessionReasons .release s = [] ↔ s.inst.life = .active ∧ s.inst.phase = .idle := by
  cases hl : s.inst.life <;> cases hp : s.inst.phase <;> simp [sessionReasons, excludes, hl, hp]

/-- Nothing is against READ exactly when a session is active and no READ is in flight. -/
theorem sessionReasons_read {s : State Cause} :
    sessionReasons .read s = [] ↔ s.inst.life = .active ∧ s.inst.phase = .idle := by
  cases hl : s.inst.life <;> cases hp : s.inst.phase <;> simp [sessionReasons, excludes, hl, hp]

/-- A command that does not decode is refused. -/
theorem refuseUndecoded_form (op : Byte) (e : Reject) (s : State Cause) :
    ∃ rs, refuseUndecoded op e s = .refused (.command (reasonOfReject e :: rs)) := by
  unfold refuseUndecoded
  split <;> exact ⟨_, rfl⟩

/-! ### READ's completion -/

/-- The end of READ answers one response of READ and empties the buffer, whatever the frame. -/
theorem finishRead_form (s : State Cause) : ∃ e, finishRead s = s.endRead.respond .read e := by
  unfold finishRead
  split
  · exact ⟨_, rfl⟩
  · exact ⟨_, rfl⟩
  · exact ⟨_, rfl⟩

/-- READ's completion answers one response of READ and empties the buffer, whatever the answer. -/
theorem completeRead_form (r : Answer Cause) (s : State Cause) :
    ∃ e, completeRead r s = s.endRead.respond .read e := by
  cases r with
  | err c => exact ⟨_, rfl⟩
  | ok b => exact finishRead_form (s.fillFrame b)

/-- An answer is taken only by a READ in flight. -/
theorem takeAnswer_next {r : Answer Cause} {s s' : State Cause} (h : takeAnswer r s = .next s') :
    s.inst.phase = .waitTransport ∧ s' = completeRead r s := by
  unfold takeAnswer at h
  split at h
  · exact ⟨‹_›, by simpa using h.symm⟩
  · cases h

/-! ### The session commands -/

theorem createAt_next {addr : BusAddr} {t : Token} {s s' : State Cause} (h : createAt addr t s = .next s') :
    s.inst.life ≠ .active ∧ s.inst.phase = .idle ∧
      s' = (s.openSession addr t).respond (.create t) (.ok .none) := by
  obtain ⟨hr, hs⟩ := attempt_next.mp h
  obtain ⟨hl, hp⟩ := sessionReasons_create.mp hr
  exact ⟨hl, hp, hs⟩

theorem execRelease_next {s s' : State Cause} (h : execRelease s = .next s') :
    s.inst.life = .active ∧ s.inst.phase = .idle ∧
      s' = s.closeSession.respond .release (.ok (.ofTransport s.inst.transport)) := by
  obtain ⟨hr, hs⟩ := attempt_next.mp h
  obtain ⟨hl, hp⟩ := sessionReasons_release.mp hr
  exact ⟨hl, hp, hs⟩

theorem execRead_next {s s' : State Cause} (h : execRead s = .next s') :
    s.inst.life = .active ∧ s.inst.phase = .idle ∧
      s' = ((s.fillFrame Frame.zero).setPhase .waitTransport).busRead Config.frameLen := by
  obtain ⟨hr, hs⟩ := attempt_next.mp h
  obtain ⟨hl, hp⟩ := sessionReasons_read.mp hr
  exact ⟨hl, hp, hs⟩

/-! ### exec -/

/-- A verdict is answered by one response. -/
theorem State.respondVerdict_form (s : State Cause) (c : Instr) (v : Verdict) :
    ∃ e, s.respondVerdict c v = s.respond c e := by
  cases v <;> exact ⟨_, rfl⟩

/-- Everything an instruction can do when it answers a next state, for any cause type and `DEV_ADDR`. -/
theorem execAt_next_cases {addr : BusAddr} {i : Instr} {s s' : State Cause} (h : execAt addr i s = .next s') :
    (∃ t, i = .create t ∧ s.inst.life ≠ .active ∧ s.inst.phase = .idle ∧
      s' = (s.openSession addr t).respond (.create t) (.ok .none)) ∨
    (i = .release ∧ s.inst.life = .active ∧ s.inst.phase = .idle ∧
      s' = s.closeSession.respond .release (.ok (.ofTransport s.inst.transport))) ∨
    (i = .read ∧ s.inst.life = .active ∧ s.inst.phase = .idle ∧
      s' = ((s.fillFrame Frame.zero).setPhase .waitTransport).busRead Config.frameLen) ∨
    (isPure i = true ∧ ∃ e, s' = s.respond i e) := by
  cases i with
  | create t => exact .inl ⟨t, rfl, createAt_next h⟩
  | release => exact .inr (.inl ⟨rfl, execRelease_next h⟩)
  | read => exact .inr (.inr (.inl ⟨rfl, execRead_next h⟩))
  | validate f =>
    obtain ⟨e, he⟩ := s.respondVerdict_form (.validate f) (validate f)
    cases h; exact .inr (.inr (.inr ⟨rfl, e, he⟩))
  | chksync f =>
    obtain ⟨e, he⟩ := s.respondVerdict_form (.chksync f) (if syncOK f then .ok else .badMagic)
    cases h; exact .inr (.inr (.inr ⟨rfl, e, he⟩))
  | chksum f =>
    obtain ⟨e, he⟩ := s.respondVerdict_form (.chksum f) (if sumOK f then .ok else .badChecksum)
    cases h; exact .inr (.inr (.inr ⟨rfl, e, he⟩))
  | decode f => cases h; exact .inr (.inr (.inr ⟨rfl, _, rfl⟩))
  | decPm1 f => cases h; exact .inr (.inr (.inr ⟨rfl, _, rfl⟩))
  | decPm2_5 f => cases h; exact .inr (.inr (.inr ⟨rfl, _, rfl⟩))
  | decPm10 f => cases h; exact .inr (.inr (.inr ⟨rfl, _, rfl⟩))
  | decEnvPm1 f => cases h; exact .inr (.inr (.inr ⟨rfl, _, rfl⟩))
  | decEnvPm2_5 f => cases h; exact .inr (.inr (.inr ⟨rfl, _, rfl⟩))
  | decEnvPm10 f => cases h; exact .inr (.inr (.inr ⟨rfl, _, rfl⟩))
  | decPc0_3 f => cases h; exact .inr (.inr (.inr ⟨rfl, _, rfl⟩))
  | decPc0_5 f => cases h; exact .inr (.inr (.inr ⟨rfl, _, rfl⟩))
  | decPc1 f => cases h; exact .inr (.inr (.inr ⟨rfl, _, rfl⟩))
  | decPc2_5 f => cases h; exact .inr (.inr (.inr ⟨rfl, _, rfl⟩))
  | decPc5 f => cases h; exact .inr (.inr (.inr ⟨rfl, _, rfl⟩))
  | decPc10 f => cases h; exact .inr (.inr (.inr ⟨rfl, _, rfl⟩))

/-- `exec` is the parametric machine's at `0x12`. -/
theorem execAt_devAddr (i : Instr) (s : State) : execAt Config.devAddr i s = exec i s := by
  cases i <;> rfl

/-- Everything `exec` can do when it answers a next state. -/
theorem exec_next_cases {i : Instr} {s s' : State} (h : exec i s = .next s') :
    (∃ t, i = .create t ∧ s.inst.life ≠ .active ∧ s.inst.phase = .idle ∧
      s' = (s.openSession Config.devAddr t).respond (.create t) (.ok .none)) ∨
    (i = .release ∧ s.inst.life = .active ∧ s.inst.phase = .idle ∧
      s' = s.closeSession.respond .release (.ok (.ofTransport s.inst.transport))) ∨
    (i = .read ∧ s.inst.life = .active ∧ s.inst.phase = .idle ∧
      s' = ((s.fillFrame Frame.zero).setPhase .waitTransport).busRead Config.frameLen) ∨
    (isPure i = true ∧ ∃ e, s' = s.respond i e) :=
  execAt_next_cases ((execAt_devAddr i s).trans h)

/-! ### step -/

theorem stepWith_issue {run : Instr → State Cause → Result Cause} {s : State Cause} {c : Command}
    {rest : List (Event Cause)} (h : s.events = .issue c :: rest) :
    stepWith run s = runCommand run c { s with events := rest } := by
  simp only [stepWith, h]

theorem stepWith_answer {run : Instr → State Cause → Result Cause} {s : State Cause} {r : Answer Cause}
    {rest : List (Event Cause)} (h : s.events = .answer r :: rest) :
    stepWith run s = takeAnswer r { s with events := rest } := by
  simp only [stepWith, h]

theorem stepWith_none {run : Instr → State Cause → Result Cause} {s : State Cause} (h : s.events = []) :
    stepWith run s = .next s := by
  simp only [stepWith, h]

theorem step_issue {s : State} {c : Command} {rest : List Event} (h : s.events = .issue c :: rest) :
    step s = runCommand exec c { s with events := rest } := stepWith_issue h

theorem step_answer {s : State} {r : Answer} {rest : List Event} (h : s.events = .answer r :: rest) :
    step s = takeAnswer r { s with events := rest } := stepWith_answer h

theorem step_none {s : State} (h : s.events = []) : step s = .next s := stepWith_none h

/-- `step` is the parametric machine's at `0x12`. -/
theorem stepAt_devAddr (s : State) : stepAt Config.devAddr s = step s := by
  have h : execAt Config.devAddr = exec := funext fun i => funext fun s => execAt_devAddr i s
  rw [stepAt, h, step]

/-- A command runs only if it decodes. -/
theorem runCommand_next {run : Instr → State Cause → Result Cause} {c : Command} {s s' : State Cause}
    (h : runCommand run c s = .next s') : ∃ i, decode c = .ok i ∧ run i s = .next s' := by
  unfold runCommand at h
  split at h
  · exact ⟨_, ‹_›, h⟩
  · rename_i e _
    obtain ⟨rs, hr⟩ := refuseUndecoded_form c.op e s
    rw [hr] at h
    cases h

/-- Everything a step can do when it answers a next state, whatever it runs instructions by. -/
theorem stepWith_next_cases {run : Instr → State Cause → Result Cause} {s s' : State Cause}
    (h : stepWith run s = .next s') :
    (s.events = [] ∧ s' = s) ∨
    (∃ c i rest, s.events = .issue c :: rest ∧ decode c = .ok i ∧ run i { s with events := rest } = .next s') ∨
    (∃ r rest, s.events = .answer r :: rest ∧ s.inst.phase = .waitTransport ∧
      s' = completeRead r { s with events := rest }) := by
  match he : s.events with
  | [] =>
    rw [stepWith_none he] at h
    exact .inl ⟨rfl, by simpa using h.symm⟩
  | .issue c :: rest =>
    rw [stepWith_issue he] at h
    obtain ⟨i, hd, hx⟩ := runCommand_next h
    exact .inr (.inl ⟨c, i, rest, rfl, hd, hx⟩)
  | .answer r :: rest =>
    rw [stepWith_answer he] at h
    exact .inr (.inr ⟨r, rest, rfl, takeAnswer_next h⟩)

/-- Everything a step can do when it answers a next state. -/
theorem step_next_cases {s s' : State} (h : step s = .next s') :
    (s.events = [] ∧ s' = s) ∨
    (∃ c i rest, s.events = .issue c :: rest ∧ decode c = .ok i ∧ exec i { s with events := rest } = .next s') ∨
    (∃ r rest, s.events = .answer r :: rest ∧ s.inst.phase = .waitTransport ∧
      s' = completeRead r { s with events := rest }) := stepWith_next_cases h

/-! ### Runs -/

theorem core_run_zero (s : State) : Sys2Proof.core.run 0 s = .next s := rfl

/-- A run goes on from the state its first step answers. -/
theorem core_run_succ {s t : State} (n : Nat) (h : step s = .next t) :
    Sys2Proof.core.run (n + 1) s = Sys2Proof.core.run n t := by
  have hc : Sys2Proof.core.step s = .next t := h
  simp only [Host.Core.run, hc]

/-- A run of one step more answers a next state only through one. -/
theorem core_run_succ_next {n : Nat} {s u : State} (h : Sys2Proof.core.run (n + 1) s = .next u) :
    ∃ t, step s = .next t ∧ Sys2Proof.core.run n t = .next u := by
  simp only [Host.Core.run] at h
  split at h
  · exact ⟨_, ‹_›, h⟩
  · cases h
  · cases h

/-- What every step keeps, every run keeps. -/
theorem core_run_keeps (P : State → Prop) (hstep : ∀ s s', P s → step s = .next s' → P s') :
    ∀ (n : Nat) (s s' : State), P s → Sys2Proof.core.run n s = .next s' → P s'
  | 0, s, s', hs, h => by cases h; exact hs
  | n + 1, s, s', hs, h => by
    obtain ⟨t, ht, hr⟩ := core_run_succ_next h
    exact core_run_keeps P hstep n t s' (hstep s t hs ht) hr

end Sys2Proof.Machine
end

