-- ==== Sys2Proof/Laws/PerInstr.lean ====
section
/-! SUPPORT. Laws/PerInstr.lean: one lemma per instruction. Family Encodes: the encoding of an instruction is a well-formed
command (R80, R81). -/

namespace Sys2Proof.Laws.Encodes

/-- The command that spells an instruction has an assigned opcode and an operand of its class's shape. -/
def Statement (i : Instr) : Prop := (encode i).wellFormed = true

/-- A frame of 32 bytes fits the frame shape. -/
theorem frame_fits (f : Frame) : (Operand.bytes f.toList).fits .frame = true := by
  simp [Operand.fits, Config.frameLen]

theorem create (t : Token) : Statement (.create t) := rfl
theorem release : Statement .release := rfl
theorem read : Statement .read := rfl
theorem validate (f : Frame) : Statement (.validate f) := frame_fits f
theorem chksync (f : Frame) : Statement (.chksync f) := frame_fits f
theorem chksum (f : Frame) : Statement (.chksum f) := frame_fits f
theorem decode (f : Frame) : Statement (.decode f) := frame_fits f
theorem decPm1 (f : Frame) : Statement (.decPm1 f) := frame_fits f
theorem decPm2_5 (f : Frame) : Statement (.decPm2_5 f) := frame_fits f
theorem decPm10 (f : Frame) : Statement (.decPm10 f) := frame_fits f
theorem decEnvPm1 (f : Frame) : Statement (.decEnvPm1 f) := frame_fits f
theorem decEnvPm2_5 (f : Frame) : Statement (.decEnvPm2_5 f) := frame_fits f
theorem decEnvPm10 (f : Frame) : Statement (.decEnvPm10 f) := frame_fits f
theorem decPc0_3 (f : Frame) : Statement (.decPc0_3 f) := frame_fits f
theorem decPc0_5 (f : Frame) : Statement (.decPc0_5 f) := frame_fits f
theorem decPc1 (f : Frame) : Statement (.decPc1 f) := frame_fits f
theorem decPc2_5 (f : Frame) : Statement (.decPc2_5 f) := frame_fits f
theorem decPc5 (f : Frame) : Statement (.decPc5 f) := frame_fits f
theorem decPc10 (f : Frame) : Statement (.decPc10 f) := frame_fits f

end Sys2Proof.Laws.Encodes
end

