-- ==== Sys2Proof/Tests/Slice0.lean ====
section
/-! SUPPORT. Tests/Slice0.lean: the well-formedness smoke tests, decoding of written-out commands (30_encoding.md R81), the
vectors of 95_test_vectors.md for each command, and a witness for the hypotheses of every statement. -/

namespace Sys2Proof.Tests

open Sys2Proof Sys2Proof.Machine

/-! ### The named frames of 95_test_vectors.md -/

/-- Frame E: the source's end-to-end example (L1-1). -/
def frameE : Frame :=
  #v[0x42, 0x4D, 0x00, 0x1C, 0x00, 0x05, 0x00, 0x0A, 0x00, 0x0F, 0x00, 0x06, 0x00, 0x0B, 0x00, 0x10,
    0x00, 0x64, 0x00, 0x5A, 0x00, 0x50, 0x00, 0x46, 0x00, 0x3C, 0x00, 0x32, 0x00, 0x00, 0x02, 0xAC]

/-- Frame D: distinct bytes in every field slot. -/
def frameD : Frame :=
  #v[0x42, 0x4D, 0x00, 0x1C, 0x10, 0xA0, 0x11, 0xA1, 0x12, 0xA2, 0x13, 0xA3, 0x14, 0xA4, 0x15, 0xA5,
    0x16, 0xA6, 0x17, 0xA7, 0x18, 0xA8, 0x19, 0xA9, 0x1A, 0xAA, 0x1B, 0xAB, 0x00, 0x00, 0x09, 0x6F]

/-- Frame F: the largest sum with a valid marker. -/
def frameF : Frame := ((Vector.replicate 32 0xFF).set 0 0x42 |>.set 1 0x4D |>.set 30 0x1C |>.set 31 0x73 : Frame)

/-- V2: the marker and the checksum both wrong. -/
def frameV2 : Frame := frameE.set 0 0x41

/-- V5: the marker swapped, the sum unchanged. -/
def frameV5 : Frame := (frameE.set 0 0x4D).set 1 0x42

/-- V6: the checksum little-endian. -/
def frameV6 : Frame := (frameE.set 30 0xAC).set 31 0x02

/-! ### States and outcomes -/

/-- (ACTIVE, t0, IDLE), with these events to come. -/
def active (es : List Event) : State := ⟨⟨.active, 0x12, some ⟨0⟩, .idle, none⟩, es, [], [], 0⟩

/-- (ACTIVE, t0, WAIT_TRANSPORT), with these events to come. -/
def waiting (es : List Event) : State :=
  ⟨⟨.active, 0x12, some ⟨0⟩, .waitTransport, some Frame.zero⟩, es, [⟨some ⟨0⟩, 0x12, 32⟩], [], 0⟩

/-- A state no run reaches: no session, yet waiting for the transport. -/
def stray : State := ⟨⟨.none, 0, none, .waitTransport, none⟩, [], [], [], 0⟩

/-- A state no run reaches: active and idle, without a token. -/
def tokenless : State := ⟨⟨.active, 0x12, none, .idle, none⟩, [], [], [], 0⟩

/-- (ACTIVE, t0, WAIT_TRANSPORT) of a machine with another cause type and another `DEV_ADDR`, its transport about to fail. -/
def waitingAt (addr : BusAddr) : State Bool :=
  ⟨⟨.active, addr, some ⟨0⟩, .waitTransport, some Frame.zero⟩, [.answer (.err true)], [⟨some ⟨0⟩, addr, 32⟩], [], 0⟩

/-- (RELEASED, none, IDLE). -/
def released (es : List Event) : State := ⟨⟨.released, 0, none, .idle, none⟩, es, [], [], 0⟩

/-- The state before any CREATE, with these events to come. -/
def fresh (es : List Event) : State := { State.reset with events := es }

def nextOf (o : Result) : Option State :=
  match o with
  | .next s => some s
  | .fault _ => none
  | .refused _ => none

/-- The reasons R195 gives for a refused command. -/
def reasonsOf (o : Result) : List Reason :=
  match o with
  | .next _ => []
  | .fault _ => []
  | .refused (.command rs) => rs
  | .refused (.notModelled _) => []
  | .refused .strayAnswer => []

/-- The response a step adds to a state that has none. -/
def responseOf (o : Result) : Option (List Response) := (nextOf o).map fun s => s.responses.map (·.response)

/-- Life, transport and phase after a step, as 95 L2-S writes a state. -/
def endState (o : Result) : Option (Life × Option Token × Phase) :=
  (nextOf o).map fun s => (s.inst.life, s.inst.transport, s.inst.phase)

/-- The event that issues an instruction. -/
def issue (i : Instr) : Event := .issue (encode i)

/-! ### Well-formedness: each check refuses an ill-formed command (R80, R82, R93) -/

theorem test_wf_accepts : (Command.mk 0x10 (.bytes frameE.toList)).wellFormed = true := by decide
theorem test_wf_refuses_unassigned_opcode : (Command.mk 0x3C (.bytes frameE.toList)).opAssigned = false := by decide
theorem test_wf_refuses_create_without_token : (Command.mk 0x01 .nothing).operandFits = false := by decide
theorem test_wf_refuses_31_bytes : (Command.mk 0x10 (.bytes (frameE.toList.take 31))).operandFits = false := by decide
theorem test_wf_refuses_33_bytes : (Command.mk 0x20 (.bytes (frameE.toList ++ [0]))).operandFits = false := by decide
theorem test_wf_refuses_read_with_operand : (Command.mk 0x03 (.bytes frameE.toList)).operandFits = false := by decide
theorem test_wf_refuses_release_with_token : (Command.mk 0x02 (.token ⟨0⟩)).operandFits = false := by decide

/-! ### Decoding: words written out from R81, and 95 L2-E -/

theorem test_decode_session :
    decode ⟨0b00000001, .token ⟨7⟩⟩ = .ok (.create ⟨7⟩) ∧ decode ⟨0b00000010, .nothing⟩ = .ok .release ∧
    decode ⟨0b00000011, .nothing⟩ = .ok .read := by decide
theorem test_decode_validator :
    decode ⟨0b00010000, .bytes frameE.toList⟩ = .ok (.validate frameE) ∧
    decode ⟨0b00010001, .bytes frameE.toList⟩ = .ok (.chksync frameE) ∧
    decode ⟨0b00010010, .bytes frameE.toList⟩ = .ok (.chksum frameE) := by decide
theorem test_decode_decoder :
    decode ⟨0b00100000, .bytes frameD.toList⟩ = .ok (.decode frameD) ∧
    decode ⟨0b00110000, .bytes frameD.toList⟩ = .ok (.decPm1 frameD) ∧
    decode ⟨0b00110001, .bytes frameD.toList⟩ = .ok (.decPm2_5 frameD) ∧
    decode ⟨0b00110010, .bytes frameD.toList⟩ = .ok (.decPm10 frameD) ∧
    decode ⟨0b00110011, .bytes frameD.toList⟩ = .ok (.decEnvPm1 frameD) ∧
    decode ⟨0b00110100, .bytes frameD.toList⟩ = .ok (.decEnvPm2_5 frameD) ∧
    decode ⟨0b00110101, .bytes frameD.toList⟩ = .ok (.decEnvPm10 frameD) := by decide
theorem test_decode_counts :
    decode ⟨0b00110110, .bytes frameD.toList⟩ = .ok (.decPc0_3 frameD) ∧
    decode ⟨0b00110111, .bytes frameD.toList⟩ = .ok (.decPc0_5 frameD) ∧
    decode ⟨0b00111000, .bytes frameD.toList⟩ = .ok (.decPc1 frameD) ∧
    decode ⟨0b00111001, .bytes frameD.toList⟩ = .ok (.decPc2_5 frameD) ∧
    decode ⟨0b00111010, .bytes frameD.toList⟩ = .ok (.decPc5 frameD) ∧
    decode ⟨0b00111011, .bytes frameD.toList⟩ = .ok (.decPc10 frameD) := by decide
theorem test_decode_refuses_unassigned :
    ∀ op ∈ ([0x00, 0x04, 0x0F, 0x13, 0x1F, 0x21, 0x2F, 0x3C, 0x3F, 0x40, 0xFF] : List Byte),
      decode ⟨op, .bytes frameE.toList⟩ = .error .unassignedOpcode := by decide
theorem test_decode_refuses_31_bytes :
    decode ⟨0x10, .bytes (frameE.toList.take 31)⟩ = .error .malformedOperand := by decide
theorem test_decode_table_word_places_frame_bytes :
    decodeTableWord 24 0x4D4210 = some (.validate ((Frame.zero.set 0 0x42).set 1 0x4D)) := by decide
theorem test_every_table_word_runs_next :
    ∀ w ∈ ([0x01, 0x10, 0x11, 0x12, 0x20, 0x30, 0x31, 0x32, 0x33, 0x34, 0x35, 0x36, 0x37, 0x38, 0x39, 0x3A, 0x3B] : List Nat),
      (responseOf (step (State.reset.withFetchWord 8 w))).isSome = true := by decide

/-! ### The written form (R91): lines of 95 P1 to P3 -/

theorem test_line_read : Command.ofLine "READ           ; 03   transport answers Ok(E)" = some (encode .read) := by decide
theorem test_line_create : Instr.written (.create ⟨0⟩) = "CREATE t0" ∧ Command.ofLine "CREATE t0" = some ⟨0x01, .token ⟨0⟩⟩ := by
  decide
theorem test_line_chksync :
    Command.ofLine "CHKSYNC 4D 42 00 1C 00 05 00 0A 00 0F 00 06 00 0B 00 10 00 64 00 5A 00 50 00 46 00 3C 00 32 00 00 02 AC" =
      some (encode (.chksync frameV5)) := by decide

/-! ### Frames: bytes, words, sums (95, named frames) -/

theorem test_sums : sum16 frameE = 0x02AC ∧ sum16 frameD = 0x096F ∧ sum16 frameF = 0x1C73 ∧
    sum16 (Vector.replicate 32 0xFF) = 0x1DE2 := by decide
theorem test_flat_byte_order : (Frame.flat (Frame.zero.set 0 0x42)) = 0x42 ∧ Frame.ofFlat 0x4D42 = (Frame.zero.set 0 0x42).set 1 0x4D := by
  decide
theorem test_checksum16 : appendChecksum (framePrefix frameE) = frameE := by decide

/-! ### Session commands (95 L2-S) -/

theorem test_create_S1 : responseOf (exec (.create ⟨0⟩) State.reset) = some [.ok .none] ∧
    endState (exec (.create ⟨0⟩) State.reset) = some (.active, some ⟨0⟩, .idle) := by decide
theorem test_create_S9 : reasonsOf (exec (.create ⟨1⟩) (active [])) = [.alreadyActive] ∧
    reasonsOf (exec (.create ⟨1⟩) (waiting [])) = [.alreadyActive, .readInFlight] := by decide
theorem test_release_S10 : responseOf (exec .release (active [])) = some [.ok (.token ⟨0⟩)] ∧
    endState (exec .release (active [])) = some (.released, none, .idle) := by decide
theorem test_release_S8_S13 : reasonsOf (exec .release (waiting [])) = [.readInFlight] ∧
    reasonsOf (exec .release State.reset) = [.notActive] := by decide
theorem test_read_issue_S7_S11 : nextOf (exec .read (active [])) = some (waiting []) ∧
    reasonsOf (exec .read (waiting [])) = [.readInFlight] ∧
    reasonsOf (exec .read (released [])) = [.notActive] := by decide
theorem test_read_completion_S2_S6 :
    (responseOf (step (waiting [.answer (.ok frameE)])) =
      some [.ok (.reading ⟨5, 10, 15, 6, 11, 16, 100, 90, 80, 70, 60, 50⟩)] ∧
    endState (step (waiting [.answer (.ok frameE)])) = some (.active, some ⟨0⟩, .idle)) ∧
    responseOf (step (waiting [.answer (.err ⟨9⟩)])) = some [.error (.transportError ⟨9⟩)] ∧
    responseOf (step (waiting [.answer (.ok Frame.zero)])) = some [.error .badMagic] ∧
    responseOf (step (waiting [.answer (.ok (frameE.set 31 0xAD))])) = some [.error .badChecksum] ∧
    responseOf (step (waiting [.answer (.ok frameV2)])) = some [.error .badMagic] := by decide
theorem test_response_codes : (Response.error (.transportError (⟨9⟩ : CauseId))).code = 1 ∧
    (Response.error (.badMagic : Error)).code = 2 ∧ (Response.error (.badChecksum : Error)).code = 3 ∧
    (Response.ok (.none : Payload)).code = 0 := by decide

/-! ### Validator commands (95 L2-V) -/

theorem test_validate_marker_wins_V2_V5 : responseOf (exec (.validate frameV2) State.reset) = some [.error .badMagic] ∧
    responseOf (exec (.validate frameV5) State.reset) = some [.error .badMagic] := by decide
theorem test_validate_V6_V13 : responseOf (exec (.validate frameV6) State.reset) = some [.error .badChecksum] ∧
    responseOf (exec (.validate frameF) State.reset) = some [.ok .none] := by decide
theorem test_chksync_V5_V6 : responseOf (exec (.chksync frameV5) State.reset) = some [.error .badMagic] ∧
    responseOf (exec (.chksync frameV6) State.reset) = some [.ok .none] := by decide
theorem test_chksum_V10_V6 : responseOf (exec (.chksum Frame.zero) State.reset) = some [.ok .none] ∧
    responseOf (exec (.chksum frameV6) State.reset) = some [.error .badChecksum] := by decide

/-! ### Decoder commands (95 L2-D) -/

theorem test_decode_DV1 : responseOf (exec (.decode frameD) State.reset) =
    some [.ok (.fieldWords ⟨0x10A0, 0x11A1, 0x12A2, 0x13A3, 0x14A4, 0x15A5, 0x16A6, 0x17A7, 0x18A8, 0x19A9, 0x1AAA, 0x1BAB⟩)] := by
  decide
theorem test_decode_unvalidated_DV8 : responseOf (exec (.decode Frame.zero) State.reset) =
    some [.ok (.fieldWords ⟨0, 0, 0, 0, 0, 0, 0, 0, 0, 0, 0, 0⟩)] := by decide
theorem test_decPm1_DV2 : responseOf (exec (.decPm1 frameD) State.reset) = some [.ok (.word 0x10A0)] := by decide
theorem test_decPm2_5_DV2 : responseOf (exec (.decPm2_5 frameD) State.reset) = some [.ok (.word 0x11A1)] := by decide
theorem test_decPm10_DV2 : responseOf (exec (.decPm10 frameD) State.reset) = some [.ok (.word 0x12A2)] := by decide
theorem test_decEnvPm1_DV2 : responseOf (exec (.decEnvPm1 frameD) State.reset) = some [.ok (.word 0x13A3)] := by decide
theorem test_decEnvPm2_5_DV2 : responseOf (exec (.decEnvPm2_5 frameD) State.reset) = some [.ok (.word 0x14A4)] := by decide
theorem test_decEnvPm10_DV2 : responseOf (exec (.decEnvPm10 frameD) State.reset) = some [.ok (.word 0x15A5)] := by decide
theorem test_decPc0_3_DV2 : responseOf (exec (.decPc0_3 frameD) State.reset) = some [.ok (.word 0x16A6)] := by decide
theorem test_decPc0_5_DV2 : responseOf (exec (.decPc0_5 frameD) State.reset) = some [.ok (.word 0x17A7)] := by decide
theorem test_decPc1_DV2 : responseOf (exec (.decPc1 frameD) State.reset) = some [.ok (.word 0x18A8)] := by decide
theorem test_decPc2_5_DV2 : responseOf (exec (.decPc2_5 frameD) State.reset) = some [.ok (.word 0x19A9)] := by decide
theorem test_decPc5_DV2 : responseOf (exec (.decPc5 frameD) State.reset) = some [.ok (.word 0x1AAA)] := by decide
theorem test_decPc10_DV2 : responseOf (exec (.decPc10 frameD) State.reset) = some [.ok (.word 0x1BAB)] := by decide
theorem test_big_endian_DV6 : responseOf (exec (.decPm1 ((frameE.set 4 0x01).set 5 0x02)) State.reset) = some [.ok (.word 0x0102)] := by
  decide

/-! ### The step and the run -/

theorem test_pure_during_read_S15 : nextOf (step (waiting [issue (.validate frameE)])) =
    some { waiting [] with responses := [⟨.validate frameE, .ok .none⟩] } := by decide
theorem test_unanswered_read_waits_S14 : nextOf (step (waiting [])) = some (waiting []) := by decide
theorem test_refused_command_sets_mark_S7 : (Run.start (waiting [issue .read])).step = ⟨waiting [], true, []⟩ := by decide
theorem test_observation_pairs_response_with_state :
    ((Run.start (waiting [.answer (.err ⟨9⟩)])).step).observation =
      some [(⟨.read, .error (.transportError ⟨9⟩)⟩, (active []).inst)] := by decide

/-! ### Witnesses: states and operands that meet the hypotheses of the statements -/

theorem active_inv : Inv (active []) := by constructor <;> decide
theorem waiting_inv : Inv (waiting []) := by constructor <;> decide
theorem released_inv : Inv (released []) := by constructor <;> decide

theorem witness_DecoderDecidesEveryCommand :
    (Command.mk 0x00 .nothing).opAssigned = false ∧
    ((Command.mk 0x01 .nothing).opAssigned = true ∧ (Command.mk 0x01 .nothing).operandFits = false) ∧
    ((Command.mk 0x3B (.bytes (List.replicate 31 0))).opAssigned = true ∧
      (Command.mk 0x3B (.bytes (List.replicate 31 0))).operandFits = false) ∧
    (Command.mk 0x01 (.token ⟨0⟩)).wellFormed = true ∧ (Command.mk 0x3B (.bytes (List.replicate 32 0))).wellFormed = true ∧
    ((fresh [.issue ⟨0x00, .nothing⟩]).events = .issue ⟨0x00, .nothing⟩ :: [] ∧
      (Command.mk 0x00 .nothing).wellFormed = false) := by decide
theorem witness_UnassignedOpcodeRefused :
    ∀ op ∈ ([0x00, 0x04, 0x0F, 0x13, 0x1F, 0x21, 0x2F, 0x3C, 0xFF] : List Byte),
      (op.toNat = 0x00 ∨ (0x04 ≤ op.toNat ∧ op.toNat ≤ 0x0F) ∨ (0x13 ≤ op.toNat ∧ op.toNat ≤ 0x1F) ∨
        (0x21 ≤ op.toNat ∧ op.toNat ≤ 0x2F) ∨ 0x3C ≤ op.toNat) ∧
      (fresh [.issue ⟨op, .nothing⟩]).events = .issue ⟨op, .nothing⟩ :: [] ∧
      reasonsOf (step (fresh [.issue ⟨op, .nothing⟩])) = [.unassignedOpcode] := by decide
theorem witness_DecodeInvertsEncode : decode ⟨0x03, .nothing⟩ = .ok .read := by decide
theorem witness_LowNibbleIsFieldIndex :
    ((0x30 : Byte) >>> 4 = 3 ∧ ((0x30 : Byte) &&& 0x0F).toNat = (0 : Fin 12)) ∧
    ((0x3B : Byte) >>> 4 = 3 ∧ ((0x3B : Byte) &&& 0x0F).toNat = (11 : Fin 12)) ∧
    ((0x3C : Byte) >>> 4 = 3 ∧ 12 ≤ ((0x3C : Byte) &&& 0x0F).toNat) ∧
    ((0x3F : Byte) >>> 4 = 3 ∧ 12 ≤ ((0x3F : Byte) &&& 0x0F).toNat) := by decide
theorem witness_StepRunsDecodedCommand :
    ((active [issue .read]).events = .issue (encode .read) :: [] ∧ decode (encode .read) = .ok .read) ∧
    decode ⟨0x00, .nothing⟩ = .error .unassignedOpcode ∧ decode ⟨0x01, .nothing⟩ = .error .malformedOperand := by decide
theorem witness_StepTakesAnswersAndWaits :
    (waiting []).events = [] ∧
    ((waiting [.answer (.err ⟨0⟩)]).events = .answer (.err ⟨0⟩) :: [] ∧
      (waiting [.answer (.err ⟨0⟩)]).inst.phase = .waitTransport) ∧
    ((active [.answer (.err ⟨0⟩)]).events = .answer (.err ⟨0⟩) :: [] ∧
      (active [.answer (.err ⟨0⟩)]).inst.phase = .idle) := by decide
theorem witness_PlacedWordRunsNext : decodeTableWord 8 0x03 = some .read := by decide
theorem witness_CreateOpensSession :
    (State.reset.inst.life ≠ .active ∧ State.reset.inst.phase = .idle) ∧
    ((released []).inst.life ≠ .active ∧ (released []).inst.phase = .idle) ∧
    ((active []).inst.life = .active ∧ (active []).inst.phase = .idle) ∧
    ((waiting []).inst.life = .active ∧ (waiting []).inst.phase = .waitTransport) ∧
    (stray.inst.life ≠ .active ∧ stray.inst.phase = .waitTransport) := by decide
theorem witness_ReleaseHandsBackTransport :
    State.reset.inst.life ≠ .active ∧
    ((waiting []).inst.life = .active ∧ (waiting []).inst.phase ≠ .idle) ∧
    ((active []).inst.life = .active ∧ (active []).inst.phase = .idle ∧ (active []).inst.transport = some ⟨0⟩) ∧
    (tokenless.inst.life = .active ∧ tokenless.inst.phase = .idle ∧ tokenless.inst.transport = none) := by decide
theorem witness_ReadIssuesThenCompletes :
    State.reset.inst.life ≠ .active ∧
    ((waiting []).inst.life = .active ∧ (waiting []).inst.phase ≠ .idle) ∧
    ((active []).inst.life = .active ∧ (active []).inst.phase = .idle) ∧
    ((waiting [.answer (.ok frameE)]).inst.phase = .waitTransport ∧
      (waiting [.answer (.ok frameE)]).events = .answer (.ok frameE) :: []) ∧
    ¬ HasMarker frameV2 ∧ (HasMarker frameV6 ∧ ¬ HasChecksum frameV6) ∧ (HasMarker frameE ∧ HasChecksum frameE) := by decide
theorem witness_OneRequestPerRead :
    (nextOf (step (active [issue .read]))).isSome = true ∧
    (nextOf (step (active [issue (.decode frameE)]))).isSome = true ∧
    ((nextOf (step (waiting [.answer (.ok frameE)]))).map fun s => s.responses.map (·.command)) = some [.read] := by decide
theorem witness_ReadAsksTheSensorFor32Bytes :
    Inv (active []) ∧ (active []).inst.life = .active ∧ (active []).inst.phase = .idle := ⟨active_inv, rfl, rfl⟩
theorem witness_TransportErrorPassesThrough :
    (waiting [.answer (.err ⟨9⟩)]).inst.phase = .waitTransport ∧
    (waiting [.answer (.err ⟨9⟩)]).events = .answer (.err ⟨9⟩) :: [] := by decide
theorem witness_ValidatorErrorPassesThrough :
    (waiting [.answer (.ok frameV6)]).inst.phase = .waitTransport ∧
    (waiting [.answer (.ok frameV6)]).events = .answer (.ok frameV6) :: [] ∧
    ((nextOf (exec (.validate frameV6) (waiting [.answer (.ok frameV6)]))).map (·.responses)) =
      some [⟨.validate frameV6, .error .badChecksum⟩] ∧
    ((nextOf (exec (.validate frameV2) (waiting [.answer (.ok frameV2)]))).map (·.responses)) =
      some [⟨.validate frameV2, .error .badMagic⟩] := by decide
theorem witness_ReadLeavesNoTrace :
    let s := active [issue .read, .answer (.ok frameE)]
    s.inst.life = .active ∧ s.inst.phase = .idle ∧ s.inst.frame = none ∧ decode (encode .read) = .ok .read ∧
      s.events = .issue (encode .read) :: .answer (.ok frameE) :: [] := by decide
theorem witness_OnlyCreateAndReleaseWriteLife :
    (nextOf (step (fresh [issue (.create ⟨0⟩)]))).isSome = true ∧ (nextOf (step (active [issue .release]))).isSome = true ∧
    (nextOf (step (active [issue (.chksum frameE)]))).isSome = true ∧
    (nextOf (exec .read (active []))).isSome = true ∧ (nextOf (exec .release (active []))).isSome = true := by decide
theorem witness_ActiveSessionKeepsAddressAndTransport :
    (active [issue .read]).inst.life = .active ∧
    ((nextOf (step (active [issue .read]))).map (·.inst.life)) = some .active := by decide
theorem witness_OnlyReadMovesPhase :
    (nextOf (step (active [issue .read]))).isSome = true ∧ (nextOf (step (waiting [.answer (.ok frameE)]))).isSome = true ∧
    (nextOf (step (fresh []))).isSome = true ∧
    ((waiting []).inst.phase = .waitTransport ∧ isPure .read = false ∧ isPure .release = false ∧
      isPure (.create ⟨0⟩) = false) := by decide
theorem witness_StepKeepsInvariant : Inv (waiting []) ∧ step (waiting []) = .next (waiting []) := ⟨waiting_inv, rfl⟩
theorem witness_StepKeepsInvariant_parametric :
    Inv (waitingAt 0x7F) 0x7F ∧
    stepAt 0x7F (waitingAt 0x7F) =
      .next ((waitingAt 0x7F).endRead.respond .read (.error (.transportError true)) |> fun s => { s with events := [] }) :=
  ⟨by constructor <;> decide, rfl⟩
theorem witness_BeforeFirstCreate : (Instr.create ⟨0⟩) ≠ .read ∧ (Instr.create ⟨0⟩) ≠ .release := by decide
theorem witness_RefusedExactlyWhen :
    reasonsOf (step (fresh [.issue ⟨0x00, .nothing⟩])) = [.unassignedOpcode] ∧
    reasonsOf (step (fresh [.issue ⟨0x01, .nothing⟩])) = [.malformedOperand] ∧
    reasonsOf (step (active [issue (.create ⟨0⟩)])) = [.alreadyActive] ∧
    reasonsOf (step (waiting [issue (.create ⟨0⟩)])) = [.alreadyActive, .readInFlight] ∧
    reasonsOf (step (waiting [.issue ⟨0x01, .nothing⟩])) = [.malformedOperand, .alreadyActive, .readInFlight] ∧
    reasonsOf (step { stray with events := [issue (.create ⟨0⟩)] }) = [.readInFlight] ∧
    reasonsOf (step (fresh [issue .read])) = [.notActive] ∧
    reasonsOf (step { stray with events := [issue .read] }) = [.notActive, .readInFlight] ∧
    (nextOf (step (waiting [issue (.decode frameE)]))).isSome = true ∧
    reasonsOf (step (waiting [issue .release])) = [.readInFlight] := by decide
theorem witness_OneReadAtATime :
    ∀ i ∈ ([.create ⟨1⟩, .release, .read] : List Instr), (waiting [issue i]).inst.phase = .waitTransport ∧
      (waiting [issue i]).events = .issue (encode i) :: [] ∧ decode (encode i) = .ok i ∧
      (i.op = .create ∨ i.op = .release ∨ i.op = .read) := by decide
theorem witness_ErrorsAreTheClosedSet :
    (nextOf (step (waiting [.answer (.err ⟨9⟩)]))).map (·.responses) =
      some ((waiting []).responses ++ [⟨.read, .error (.transportError ⟨9⟩)⟩]) ∧
    (nextOf (step (active [issue (.chksync frameV2)]))).map (·.responses) =
      some ((active []).responses ++ [⟨.chksync frameV2, .error .badMagic⟩]) ∧
    (nextOf (step (active [issue (.chksum frameV6)]))).map (·.responses) =
      some ((active []).responses ++ [⟨.chksum frameV6, .error .badChecksum⟩]) := by decide
theorem witness_RefusalMarkStays : ((Run.start (fresh [issue .read])).step).refusalMark = true := by decide
theorem witness_OneResponsePerCommand :
    (nextOf (exec .read (active []))).isSome = true ∧ (nextOf (exec (.decode frameE) (active []))).isSome = true ∧
    ((waiting [.answer (.ok frameE)]).events = .answer (.ok frameE) :: [] ∧
      (nextOf (step (waiting [.answer (.ok frameE)]))).isSome = true) := by decide
theorem witness_ErrorReturnIsPrecise :
    (waiting [.answer (.err ⟨9⟩)]).events = .answer (.err ⟨9⟩) :: [] ∧
    ((nextOf (step (waiting [.answer (.err ⟨9⟩)]))).map (·.responses)) =
      some ((waiting []).responses ++ [⟨.read, .error (.transportError ⟨9⟩)⟩]) ∧
    (isPure (.chksync frameV2) = true ∧ ((nextOf (exec (.chksync frameV2) (waiting []))).map (·.responses)) =
      some ((waiting []).responses ++ [⟨.chksync frameV2, .error .badMagic⟩])) := by decide
theorem witness_UnansweredReadWaitsForever :
    let s := waiting [issue (.chksync frameE)]
    s.inst.phase = .waitTransport ∧ (∀ a, Event.answer a ∉ s.events) ∧
      (∀ c, Event.issue c ∈ s.events → ∃ i, decode c = .ok i ∧ isPure i = true) ∧ isPure .read = false := by
  refine ⟨rfl, ?_, ?_, rfl⟩
  · intro a h
    simp [waiting, issue] at h
  · intro c h
    simp only [waiting, issue, List.mem_singleton, Event.issue.injEq] at h
    subst h
    exact ⟨.chksync frameE, by decide, rfl⟩
theorem witness_NoUseAfterRelease :
    (nextOf (exec .release (active []))).isSome = true ∧
    ((released [issue (.decode frameE)]).inst.life = .released ∧
      (nextOf (step (released [issue (.decode frameE)]))).isSome = true) ∧
    (nextOf (step (released [issue (.create ⟨0⟩)]))).isSome = true := by decide
theorem witness_ValidatorClauses :
    ¬ HasMarker frameV5 ∧ (HasMarker frameV6 ∧ ¬ HasChecksum frameV6) ∧ (HasMarker frameF ∧ HasChecksum frameF) ∧
    HasChecksum Frame.zero := by decide
theorem witness_SumNeverWraps :
    HasMarker frameE ∧ wordValue (frameE.set 30 0x00 |>.set 31 0x8E) 30 < 0x008F ∧
    HasMarker (frameE.set 30 0x00 |>.set 31 0x8E) ∧ 0x1C73 < wordValue (frameF.set 31 0x74) 30 ∧
    HasMarker (frameF.set 31 0x74) := by decide
theorem witness_ChecksumRoundTrip : (framePrefix frameE)[0] = 0x42 ∧ (framePrefix frameE)[1] = 0x4D := by decide
theorem witness_ChecksumSeesOnlyTheTotal :
    let g := (frameE.set 4 0x05).set 5 0x00
    sumOK frameE = true ∧ frameE[30] = g[30] ∧ frameE[31] = g[31] ∧ byteSum frameE = byteSum g ∧ frameE ≠ g ∧
      (frameE.toList.take 30).Perm (g.toList.take 30) := by decide
theorem witness_DecodeSeesExactlyTheFieldBytes :
    ∀ i : Fin 32, 4 ≤ i.val → i.val < 28 → frameE[i] = (frameE.set 28 0x12)[i] := by decide
theorem witness_UnusedBytesAreOnlySummed :
    (∀ i : Fin 32, i.val ≠ 2 → i.val ≠ 3 → i.val ≠ 28 → i.val ≠ 29 →
      frameE[i] = ((frameE.set 2 0xFF).set 29 0x34)[i]) ∧ HasMarker frameE := by decide
theorem witness_ReadingOnlyFromValidatedFrame :
    ((nextOf (step (waiting [.answer (.ok frameE)]))).map (·.responses)) =
      some ((waiting []).responses ++ [⟨.read, .ok (.reading ⟨5, 10, 15, 6, 11, 16, 100, 90, 80, 70, 60, 50⟩)⟩]) := by decide
theorem witness_PureCommandsOnlyRespond : isPure (.validate frameE) = true ∧ isPure (.decPc10 frameE) = true := by decide
theorem witness_ReadResponseIsFunctionOfAnswer :
    (waiting [.answer (.ok frameE)]).inst.phase = .waitTransport ∧
    (waiting [.answer (.ok frameE)]).events = .answer (.ok frameE) :: [] := by decide
theorem witness_PureCommandCommutesWithAnswer :
    (waiting []).inst.phase = .waitTransport ∧ decode (encode (.validate frameE)) = .ok (.validate frameE) ∧
    isPure (.validate frameE) = true := by decide
theorem witness_CreateFixesDevAddrParameter :
    (State.resetAt Bool).inst.life ≠ .active ∧ (State.resetAt Bool).inst.phase = .idle := by decide

end Sys2Proof.Tests
end

/-! ### 00_scope.md: the two open parameters of R7 -/

namespace Sys2Proof.Machine

/-- CREATE on an idle instance without a session opens one at `addr` (R110, R195). -/
theorem execAt_create_of_inactive {Cause : Type} {addr : BusAddr} {t : Token} {s : State Cause}
    (hl : s.inst.life ≠ .active) (hp : s.inst.phase = .idle) :
    execAt addr (.create t) s = .next ((s.openSession addr t).respond (.create t) (.ok .none)) :=
  attempt_of_nil (sessionReasons_create.mpr ⟨hl, hp⟩)

/-- READ on an idle active instance zeroes the buffer, waits, and sends one request (R112, R114, R195). -/
theorem execAt_read_of_active {Cause : Type} {addr : BusAddr} {s : State Cause} (hl : s.inst.life = .active)
    (hp : s.inst.phase = .idle) :
    execAt addr .read s =
      .next (((s.fillFrame Frame.zero).setPhase .waitTransport).busRead Config.frameLen) :=
  attempt_of_nil (sessionReasons_read.mpr ⟨hl, hp⟩)

/-- Settles O55: CREATE writes `addr` and the token into the instance, and READ asks with exactly what it finds there. -/
theorem createFixesDevAddrParameter : Obligations.CreateFixesDevAddrParameter := by
  intro Cause addr t s hl hp
  have hread := execAt_read_of_active (addr := addr)
    (s := (s.openSession addr t).respond (.create t) (.ok .none)) rfl rfl
  refine ⟨_, _, execAt_create_of_inactive hl hp, ?inst, ?noRequest, hread, ?addr, ?request⟩
  case inst => simp
  case noRequest => simp
  case addr => simp
  case request => simp [Config.frameLen]

/-- Settles O54: `0x12` is `Config.devAddr`, where the parametric step and effects are this machine's. -/
theorem thisMachineIsAtAddress0x12 : Obligations.ThisMachineIsAtAddress0x12 :=
  fun s => ⟨stepAt_devAddr s, fun i => execAt_devAddr i s⟩

end Sys2Proof.Machine

/-! ### 10_state.md: what a step can do, and what it keeps -/

namespace Sys2Proof.Machine

section

variable {Cause : Type} {addr : BusAddr} {s s' : State Cause} {i : Instr}

/-! #### The step, by what it takes -/

/-- The pure commands are all but the three of the session (R120). -/
theorem isPure_iff : isPure i = true ↔ i.op ≠ .create ∧ i.op ≠ .release ∧ i.op ≠ .read := by
  unfold isPure
  cases i.op <;> simp

theorem not_isPure_iff : isPure i = false ↔ (∃ t, i = .create t) ∨ i = .release ∨ i = .read := by
  cases i <;> simp [isPure, Instr.op]

/-- What a step takes is one instruction at most: the next event decides it. -/
theorem decoded_unique {c c' : Command} {rest rest' : List (Event Cause)} {j : Instr} (hev : s.events = .issue c :: rest)
    (hdec : decode c = .ok i) (hev' : s.events = .issue c' :: rest') (hdec' : decode c' = .ok j) : i = j := by
  obtain ⟨hc, -⟩ : c = c' ∧ rest = rest' := by simpa [hev] using hev'
  simpa [← hc, hdec] using hdec'

/-- Everything a step can do when it answers a next state: the transitions of R24 and R112, with what each takes and what
it needs. `StepEffect.of_stepAt` and `StepEffect.of_step` tie it to the machine. -/
inductive StepEffect (addr : BusAddr) (s : State Cause) : State Cause → Prop where
  | noEvent (hev : s.events = []) : StepEffect addr s s
  | create {c : Command} {rest : List (Event Cause)} {t : Token} (hev : s.events = .issue c :: rest)
      (hdec : decode c = .ok (.create t)) (hlife : s.inst.life ≠ .active) (hphase : s.inst.phase = .idle) :
      StepEffect addr s ((({ s with events := rest } : State Cause).openSession addr t).respond (.create t) (.ok .none))
  | release {c : Command} {rest : List (Event Cause)} (hev : s.events = .issue c :: rest)
      (hdec : decode c = .ok .release) (hlife : s.inst.life = .active) (hphase : s.inst.phase = .idle) :
      StepEffect addr s
        (({ s with events := rest } : State Cause).closeSession.respond .release (.ok (.ofTransport s.inst.transport)))
  | read {c : Command} {rest : List (Event Cause)} (hev : s.events = .issue c :: rest)
      (hdec : decode c = .ok .read) (hlife : s.inst.life = .active) (hphase : s.inst.phase = .idle) :
      StepEffect addr s
        (((({ s with events := rest } : State Cause).fillFrame Frame.zero).setPhase .waitTransport).busRead Config.frameLen)
  | pure {c : Command} {rest : List (Event Cause)} {i : Instr} (e : Response Cause) (hev : s.events = .issue c :: rest)
      (hdec : decode c = .ok i) (hpure : isPure i = true) :
      StepEffect addr s (({ s with events := rest } : State Cause).respond i e)
  | answer {r : Answer Cause} {rest : List (Event Cause)} (e : Response Cause) (hev : s.events = .answer r :: rest)
      (hphase : s.inst.phase = .waitTransport) :
      StepEffect addr s (({ s with events := rest } : State Cause).endRead.respond .read e)

theorem StepEffect.of_stepAt (h : stepAt addr s = .next s') : StepEffect addr s s' := by
  obtain ⟨hev, rfl⟩ | ⟨c, i, rest, hev, hdec, hrun⟩ | ⟨r, rest, hev, hphase, rfl⟩ := stepWith_next_cases h
  · exact .noEvent hev
  · obtain ⟨t, rfl, hlife, hphase, rfl⟩ | ⟨rfl, hlife, hphase, rfl⟩ | ⟨rfl, hlife, hphase, rfl⟩ | ⟨hpure, e, rfl⟩ :=
      execAt_next_cases hrun
    · exact .create hev hdec hlife hphase
    · exact .release hev hdec hlife hphase
    · exact .read hev hdec hlife hphase
    · exact .pure e hev hdec hpure
  · obtain ⟨e, he⟩ := completeRead_form r { s with events := rest }
    rw [he]
    exact .answer e hev hphase

theorem StepEffect.of_step {s s' : State} (h : step s = .next s') : StepEffect Config.devAddr s s' :=
  .of_stepAt ((stepAt_devAddr s).trans h)

/-! #### The invariant, transition by transition -/

@[simp] theorem Ended.isRead_mk (i : Instr) (e : Response Cause) : (Ended.mk i e).isRead = (i.op == .read) := rfl

theorem CoreInst.inFlight_of_idle {c : CoreInst} (h : c.phase = .idle) : c.inFlight = 0 := by
  simp [CoreInst.inFlight, h]

theorem CoreInst.inFlight_of_waiting {c : CoreInst} (h : c.phase = .waitTransport) : c.inFlight = 1 := by
  simp [CoreInst.inFlight, h]

/-- The invariant speaks of `inst`, of the requests and of the READs ended, and of nothing else. -/
theorem Inv.congr (h : Inv s addr) (hinst : s'.inst = s.inst) (hreq : s'.requests = s.requests)
    (hreads : s'.responses.filter Ended.isRead = s.responses.filter Ended.isRead) : Inv s' addr where
  idle_frame := by simpa [hinst] using h.idle_frame
  wait_frame := by simpa [hinst] using h.wait_frame
  wait_active := by simpa [hinst] using h.wait_active
  owns_iff := by simpa [hinst] using h.owns_iff
  address := by simpa [hinst] using h.address
  request := by simpa [hreq] using h.request
  in_flight := by simpa [hinst, hreq] using h.in_flight
  one_request := by simpa [hinst, hreq, hreads] using h.one_request

theorem Inv.withEvents (h : Inv s addr) (es : List (Event Cause)) : Inv { s with events := es } addr :=
  h.congr rfl rfl rfl

theorem Inv.respond_of_isPure (h : Inv s addr) (hpure : isPure i = true) (e : Response Cause) :
    Inv (s.respond i e) addr := by
  obtain ⟨-, -, hread⟩ := isPure_iff.mp hpure
  exact h.congr rfl rfl (by simp [hread])

/-- A session opened while no READ is in flight owns its token and has the address of R7 (R110). -/
theorem Inv.create (h : Inv s addr) (hphase : s.inst.phase = .idle) (t : Token) (e : Response Cause) :
    Inv ((s.openSession addr t).respond (.create t) e) addr where
  idle_frame := by simp
  wait_frame := by simp
  wait_active := by simp
  owns_iff := by simp
  address := by simp
  request := h.request
  in_flight := by simp
  one_request := by
    simpa [CoreInst.inFlight_of_idle, hphase, Instr.op] using h.one_request

/-- A session closed while no READ is in flight has given its token up (R111). -/
theorem Inv.release (h : Inv s addr) (hphase : s.inst.phase = .idle) (e : Response Cause) :
    Inv (s.closeSession.respond .release e) addr where
  idle_frame := h.idle_frame
  wait_frame := by simp [hphase]
  wait_active := by simp [hphase]
  owns_iff := by simp
  address := by simp
  request := h.request
  in_flight := by simp [hphase]
  one_request := by
    simpa [CoreInst.inFlight_of_idle, hphase, Instr.op] using h.one_request

/-- READ's issue step zeroes the buffer and puts one request in flight, to the token owned (R112, R114). -/
theorem Inv.issueRead (h : Inv s addr) (hlife : s.inst.life = .active) (hphase : s.inst.phase = .idle) :
    Inv (((s.fillFrame Frame.zero).setPhase .waitTransport).busRead Config.frameLen) addr where
  idle_frame := by simp
  wait_frame := by simp
  wait_active := by simp [hlife]
  owns_iff := h.owns_iff
  address := h.address
  request := by
    have hnew : s.inst.transport.isSome = true ∧ s.inst.devAddr = addr := ⟨h.owns_iff.mpr hlife, h.address hlife⟩
    simpa [or_imp, forall_and, hnew] using h.request
  in_flight := by simp [h.address hlife]
  one_request := by
    simpa [CoreInst.inFlight_of_idle, CoreInst.inFlight_of_waiting, hphase] using h.one_request

/-- READ's end discards the buffer, and the READ in flight becomes a READ ended (R112, R113). -/
theorem Inv.endRead (h : Inv s addr) (hphase : s.inst.phase = .waitTransport) (e : Response Cause) :
    Inv (s.endRead.respond .read e) addr where
  idle_frame := by simp
  wait_frame := by simp
  wait_active := by simp
  owns_iff := h.owns_iff
  address := h.address
  request := h.request
  in_flight := by simp
  one_request := by
    simpa [CoreInst.inFlight_of_idle, CoreInst.inFlight_of_waiting, hphase, Instr.op] using h.one_request

theorem StepEffect.keeps_inv (h : Inv s addr) (he : StepEffect addr s s') : Inv s' addr := by
  cases he with
  | noEvent => exact h
  | @create _ rest t hev hdec hlife hphase => exact (h.withEvents rest).create hphase t _
  | @release _ rest hev hdec hlife hphase => exact (h.withEvents rest).release hphase _
  | @read _ rest hev hdec hlife hphase => exact (h.withEvents rest).issueRead hlife hphase
  | @pure _ rest _ e hev hdec hpure => exact (h.withEvents rest).respond_of_isPure hpure e
  | @answer _ rest e hev hphase => exact (h.withEvents rest).endRead hphase e

end

/-- Settles O23: every transition keeps the invariant, for any address, so for `0x12` too. -/
theorem stepKeepsInvariant : Obligations.StepKeepsInvariant :=
  ⟨fun _ _ h hstep => (StepEffect.of_step hstep).keeps_inv h,
    fun _ _ _ _ h hstep => (StepEffect.of_stepAt hstep).keeps_inv h⟩

/-- Settles O24: before the first CREATE nothing waits, nothing is owned and nothing was requested. -/
theorem resetMeetsInvariant : Obligations.ResetMeetsInvariant where
  idle_frame _ := rfl
  wait_frame hwait := nomatch hwait
  wait_active hwait := nomatch hwait
  owns_iff := ⟨nofun, nofun⟩
  address hactive := nomatch hactive
  request _ hq := nomatch hq
  in_flight hwait := nomatch hwait
  one_request := rfl

/-! #### Who writes `life`, `phase`, `dev_addr` and `transport` -/

/-- Settles O20: of the transitions only CREATE's and RELEASE's touch `life`. -/
theorem onlyCreateAndReleaseWriteLife : Obligations.OnlyCreateAndReleaseWriteLife := by
  constructor
  · intro s s' hstep
    cases StepEffect.of_step hstep with
    | noEvent hev => exact .inr (.inr ⟨by simp [hev], rfl⟩)
    | create hev hdec hlife hphase => exact .inl ⟨_, _, _, hev, hdec, rfl⟩
    | release hev hdec hlife hphase => exact .inr (.inl ⟨_, _, hev, hdec, rfl⟩)
    | read hev hdec hlife hphase => 
      refine .inr (.inr ⟨fun c rest j hev' hdec' => ?_, rfl⟩)
      cases decoded_unique hev hdec hev' hdec'
      simp [Instr.op]
    | pure e hev hdec hpure =>
      obtain ⟨hcreate, hrelease, -⟩ := isPure_iff.mp hpure
      refine .inr (.inr ⟨fun c rest j hev' hdec' => ?_, rfl⟩)
      cases decoded_unique hev hdec hev' hdec'
      exact ⟨hcreate, hrelease⟩
    | answer e hev hphase => exact .inr (.inr ⟨by simp [hev], rfl⟩)
  · rintro s s' i hexec (rfl | rfl)
    · exact (execRead_next hexec).1
    · exact (execRelease_next hexec).1

/-- Settles O21: only CREATE and RELEASE write `dev_addr` or `transport`; the first needs a session that is not active, the
second leaves one that is not. -/
theorem activeSessionKeepsAddressAndTransport : Obligations.ActiveSessionKeepsAddressAndTransport := by
  intro s s' hstep hbefore hafter
  cases StepEffect.of_step hstep with
  | noEvent hev => exact ⟨rfl, rfl⟩
  | create hev hdec hlife hphase => exact absurd hbefore hlife
  | release hev hdec hlife hphase => simp at hafter
  | read hev hdec hlife hphase => exact ⟨rfl, rfl⟩
  | pure e hev hdec hpure => exact ⟨rfl, rfl⟩
  | answer e hev hphase => exact ⟨rfl, rfl⟩

/-- While a READ is in flight every session command is refused (R195, R235). -/
theorem exec_refused_of_waiting {s : State} {i : Instr} (hphase : s.inst.phase = .waitTransport)
    (hpure : isPure i = false) : ∃ r, exec i s = .refused r := by
  obtain ⟨t, rfl⟩ | rfl | rfl := not_isPure_iff.mp hpure
  · exact ⟨_, attempt_of_ne_nil (by simp [sessionReasons_create, hphase])⟩
  · exact ⟨_, attempt_of_ne_nil (by simp [sessionReasons_release, hphase])⟩
  · exact ⟨_, attempt_of_ne_nil (by simp [sessionReasons_read, hphase])⟩

/-- Settles O22: CREATE and RELEASE run only when idle and stay so; only READ's two transitions move `phase`. -/
theorem onlyReadMovesPhase : Obligations.OnlyReadMovesPhase := by
  refine ⟨fun s s' hstep => ?_, fun _ _ => exec_refused_of_waiting⟩
  cases StepEffect.of_step hstep with
  | noEvent hev => exact .inr (.inr ⟨by simp [hev], by simp [hev], rfl⟩)
  | create hev hdec hlife hphase =>
    exact .inr (.inr ⟨fun c rest hev' hdec' => (nomatch decoded_unique hev hdec hev' hdec'), by simp [hev], hphase.symm⟩)
  | release hev hdec hlife hphase =>
    exact .inr (.inr ⟨fun c rest hev' hdec' => (nomatch decoded_unique hev hdec hev' hdec'), by simp [hev], rfl⟩)
  | read hev hdec hlife hphase => exact .inl ⟨_, _, hev, hdec, hphase, rfl⟩
  | pure e hev hdec hpure =>
    obtain ⟨-, -, hread⟩ := isPure_iff.mp hpure
    refine .inr (.inr ⟨fun c rest hev' hdec' => ?_, by simp [hev], rfl⟩)
    cases decoded_unique hev hdec hev' hdec'
    exact hread rfl
  | answer e hev hphase => exact .inr (.inl ⟨_, _, hev, hphase, rfl⟩)

/-! #### A READ from issue to completion -/

/-- A command that decodes is run, its event used up (R82). -/
theorem step_of_decode {s : State} {c : Command} {i : Instr} {rest : List Event} (hev : s.events = .issue c :: rest)
    (hdec : decode c = .ok i) : step s = exec i { s with events := rest } := by
  rw [step_issue hev, runCommand, hdec]

/-- The answer to a READ in flight ends it with one response (R112, R120). -/
theorem step_answer_of_waiting {s : State} {r : Answer} {rest : List Event} (hev : s.events = .answer r :: rest)
    (hphase : s.inst.phase = .waitTransport) :
    ∃ e, step s = .next (({ s with events := rest } : State).endRead.respond .read e) := by
  obtain ⟨e, he⟩ := completeRead_form r { s with events := rest }
  exact ⟨e, by rw [step_answer hev, takeAnswer, hphase, he]⟩

/-- READ, taken in an idle active session, zeroes the buffer, waits and sends one request (R112, R114). -/
theorem step_read_of_active {s : State} {c : Command} {rest : List Event} (hev : s.events = .issue c :: rest)
    (hdec : decode c = .ok .read) (hlife : s.inst.life = .active) (hphase : s.inst.phase = .idle) :
    step s = .next
      (((({ s with events := rest } : State).fillFrame Frame.zero).setPhase .waitTransport).busRead Config.frameLen) := by
  rw [step_of_decode hev hdec, ← execAt_devAddr]
  exact execAt_read_of_active hlife hphase

/-- Settles O19: the issue step writes `frame` and `phase` alone, and the completion puts both back. -/
theorem readLeavesNoTrace : Obligations.ReadLeavesNoTrace := by
  intro s c r rest hlife hphase hframe hdec hev
  have hissue := step_read_of_active hev hdec hlife hphase
  obtain ⟨e, hanswer⟩ := step_answer_of_waiting (r := r) (rest := rest)
    (s := ((({ s with events := .answer r :: rest } : State).fillFrame Frame.zero).setPhase .waitTransport).busRead
      Config.frameLen) rfl rfl
  refine ⟨_, (core_run_succ 1 hissue).trans (core_run_succ 0 hanswer), ?inst, rfl, rfl, rfl, e, rfl⟩
  case inst => simp [← hphase, ← hframe]

/-! #### Renaming tokens and causes -/

section

variable {C D : Type} (ρ : Renaming C D)

/-- A frame operand holds no token, and the instruction made of it none either. -/
theorem frameOperand_map_rename {mk : Frame → Instr} (hmk : ∀ f, (mk f).rename ρ = mk f) (x : Operand) :
    (frameOperand (x.rename ρ)).map mk = ((frameOperand x).map mk).map (Instr.rename ρ) := by
  have hx : frameOperand (x.rename ρ) = frameOperand x := by cases x <;> rfl
  rw [hx]
  cases frameOperand x with
  | error e => rfl
  | ok f => simp [Except.map, hmk]

theorem tokenOperand_map_rename (x : Operand) :
    (tokenOperand (x.rename ρ)).map Instr.create = ((tokenOperand x).map Instr.create).map (Instr.rename ρ) := by
  cases x <;> rfl

theorem noOperand_rename {i : Instr} (hi : i.rename ρ = i) (x : Operand) :
    noOperand i (x.rename ρ) = (noOperand i x).map (Instr.rename ρ) := by
  cases x <;> simp [noOperand, Operand.rename, Except.map, hi]

theorem assembleInstr_rename (o : Op) (x : Operand) :
    assembleInstr o (x.rename ρ) = (assembleInstr o x).map (Instr.rename ρ) := by
  cases o
  case create => exact tokenOperand_map_rename ρ x
  case release => exact noOperand_rename ρ rfl x
  case read => exact noOperand_rename ρ rfl x
  all_goals exact frameOperand_map_rename ρ (fun _ => rfl) x

/-- The decoder hands a token on unread (R82, R23). -/
theorem decode_rename (c : Command) : decode (c.rename ρ) = (decode c).map (Instr.rename ρ) := by
  have hop : (c.rename ρ).op = c.op := rfl
  unfold decode
  rw [hop]
  cases opOfByte c.op with
  | none => rfl
  | some o => exact assembleInstr_rename ρ o c.operand

/-! What the operations of Machine/Ops.lean do to a renamed state. -/

@[simp] theorem State.rename_phase (s : State C) : (s.rename ρ).inst.phase = s.inst.phase := rfl

@[simp] theorem State.rename_respond (s : State C) (i : Instr) (e : Response C) :
    (s.respond i e).rename ρ = (s.rename ρ).respond (i.rename ρ) (e.rename ρ) := by
  simp [State.respond, State.rename, Ended.rename]

@[simp] theorem State.rename_raiseError (s : State C) (i : Instr) (e : Error C) :
    (s.raiseError i e).rename ρ = (s.rename ρ).raiseError (i.rename ρ) (e.rename ρ) :=
  s.rename_respond ρ i (.error e)

@[simp] theorem State.rename_respondVerdict (s : State C) (i : Instr) (v : Verdict) :
    (s.respondVerdict i v).rename ρ = (s.rename ρ).respondVerdict (i.rename ρ) v := by
  cases v with
  | ok => exact s.rename_respond ρ i (.ok .none)
  | badMagic => exact s.rename_raiseError ρ i .badMagic
  | badChecksum => exact s.rename_raiseError ρ i .badChecksum

@[simp] theorem State.rename_respondWord (s : State C) (i : Instr) (w : Word) :
    (s.respondWord i w).rename ρ = (s.rename ρ).respondWord (i.rename ρ) w :=
  s.rename_respond ρ i (.ok (.word w))

@[simp] theorem State.rename_busRead (s : State C) (n : Nat) :
    (s.busRead n).rename ρ = (s.rename ρ).busRead n := by
  simp [State.busRead, State.rename, CoreInst.rename, BusRequest.rename]

@[simp] theorem State.rename_endRead (s : State C) : s.endRead.rename ρ = (s.rename ρ).endRead := rfl
@[simp] theorem State.rename_fillFrame (s : State C) (b : Frame) :
    (s.fillFrame b).rename ρ = (s.rename ρ).fillFrame b := rfl
@[simp] theorem State.rename_setPhase (s : State C) (p : Phase) :
    (s.setPhase p).rename ρ = (s.rename ρ).setPhase p := rfl
@[simp] theorem State.rename_openSession (s : State C) (addr : BusAddr) (t : Token) :
    (s.openSession addr t).rename ρ = (s.rename ρ).openSession addr (ρ.token t) := rfl
@[simp] theorem State.rename_closeSession (s : State C) : s.closeSession.rename ρ = (s.rename ρ).closeSession := rfl

theorem Payload.rename_ofTransport (t : Option Token) :
    (Payload.ofTransport t : Payload C).rename ρ = .ofTransport (t.map ρ.token) := by
  cases t <;> rfl

/-- No row of R195's table is about a token or a cause. -/
theorem sessionReasons_rename (o : Op) (s : State C) : sessionReasons o (s.rename ρ) = sessionReasons o s := by
  have h : excludes o (s.rename ρ) = excludes o s := by funext r; cases r <;> rfl
  rw [sessionReasons, h, sessionReasons]

theorem attempt_rename (o : Op) (s s' : State C) :
    attempt o (s.rename ρ) (s'.rename ρ) = renameResult ρ (attempt o s s') := by
  unfold attempt
  rw [sessionReasons_rename]
  cases sessionReasons o s <;> rfl

theorem refuseUndecoded_rename (op : Byte) (e : Reject) (s : State C) :
    refuseUndecoded op e (s.rename ρ) = renameResult ρ (refuseUndecoded op e s) := by
  unfold refuseUndecoded
  cases opOfByte op with
  | none => rfl
  | some o => simp [sessionReasons_rename, renameResult]

theorem finishRead_rename (s : State C) : (finishRead s).rename ρ = finishRead (s.rename ρ) := by
  have hb : (s.rename ρ).bufferedFrame = s.bufferedFrame := rfl
  unfold finishRead
  rw [hb]
  cases validate s.bufferedFrame with
  | ok => exact s.endRead.rename_respond ρ .read _
  | badMagic => exact s.endRead.rename_raiseError ρ .read .badMagic
  | badChecksum => exact s.endRead.rename_raiseError ρ .read .badChecksum

/-- The completion step passes a cause on unread (R117, R192). -/
theorem completeRead_rename (r : Answer C) (s : State C) :
    (completeRead r s).rename ρ = completeRead (r.rename ρ) (s.rename ρ) := by
  cases r with
  | ok b => exact finishRead_rename ρ (s.fillFrame b)
  | err c => exact s.endRead.rename_raiseError ρ .read (.transportError c)

theorem takeAnswer_rename (r : Answer C) (s : State C) :
    takeAnswer (r.rename ρ) (s.rename ρ) = renameResult ρ (takeAnswer r s) := by
  unfold takeAnswer
  rw [State.rename_phase]
  cases s.inst.phase with
  | idle => rfl
  | waitTransport => simp [renameResult, completeRead_rename]

theorem execRelease_rename (s : State C) : execRelease (s.rename ρ) = renameResult ρ (execRelease s) := by
  have h := attempt_rename ρ .release s (s.closeSession.respond .release (.ok (.ofTransport s.inst.transport)))
  rw [State.rename_respond, Response.rename, Payload.rename_ofTransport] at h
  exact h

theorem execRead_rename (s : State C) : execRead (s.rename ρ) = renameResult ρ (execRead s) := by
  have h := attempt_rename ρ .read s (((s.fillFrame Frame.zero).setPhase .waitTransport).busRead Config.frameLen)
  rw [State.rename_busRead] at h
  exact h

theorem createAt_rename (addr : BusAddr) (t : Token) (s : State C) :
    createAt addr (ρ.token t) (s.rename ρ) = renameResult ρ (createAt addr t s) := by
  have h := attempt_rename ρ .create s ((s.openSession addr t).respond (.create t) (.ok .none))
  rw [State.rename_respond] at h
  exact h

/-- Every instruction moves tokens and causes without a look at them. -/
theorem execAt_rename (addr : BusAddr) (i : Instr) (s : State C) :
    execAt addr (i.rename ρ) (s.rename ρ) = renameResult ρ (execAt addr i s) := by
  cases i with
  | create t => exact createAt_rename ρ addr t s
  | release => exact execRelease_rename ρ s
  | read => exact execRead_rename ρ s
  | validate f => exact congrArg Host.Outcome.next (s.rename_respondVerdict ρ (.validate f) _).symm
  | chksync f => exact congrArg Host.Outcome.next (s.rename_respondVerdict ρ (.chksync f) _).symm
  | chksum f => exact congrArg Host.Outcome.next (s.rename_respondVerdict ρ (.chksum f) _).symm
  | decode f => exact congrArg Host.Outcome.next (s.rename_respond ρ (.decode f) (.ok (.fieldWords _))).symm
  | decPm1 f => exact congrArg Host.Outcome.next (s.rename_respondWord ρ (.decPm1 f) _).symm
  | decPm2_5 f => exact congrArg Host.Outcome.next (s.rename_respondWord ρ (.decPm2_5 f) _).symm
  | decPm10 f => exact congrArg Host.Outcome.next (s.rename_respondWord ρ (.decPm10 f) _).symm
  | decEnvPm1 f => exact congrArg Host.Outcome.next (s.rename_respondWord ρ (.decEnvPm1 f) _).symm
  | decEnvPm2_5 f => exact congrArg Host.Outcome.next (s.rename_respondWord ρ (.decEnvPm2_5 f) _).symm
  | decEnvPm10 f => exact congrArg Host.Outcome.next (s.rename_respondWord ρ (.decEnvPm10 f) _).symm
  | decPc0_3 f => exact congrArg Host.Outcome.next (s.rename_respondWord ρ (.decPc0_3 f) _).symm
  | decPc0_5 f => exact congrArg Host.Outcome.next (s.rename_respondWord ρ (.decPc0_5 f) _).symm
  | decPc1 f => exact congrArg Host.Outcome.next (s.rename_respondWord ρ (.decPc1 f) _).symm
  | decPc2_5 f => exact congrArg Host.Outcome.next (s.rename_respondWord ρ (.decPc2_5 f) _).symm
  | decPc5 f => exact congrArg Host.Outcome.next (s.rename_respondWord ρ (.decPc5 f) _).symm
  | decPc10 f => exact congrArg Host.Outcome.next (s.rename_respondWord ρ (.decPc10 f) _).symm

theorem runCommand_rename (addr : BusAddr) (c : Command) (s : State C) :
    runCommand (execAt addr) (c.rename ρ) (s.rename ρ) = renameResult ρ (runCommand (execAt addr) c s) := by
  unfold runCommand
  rw [decode_rename]
  cases decode c with
  | ok i => exact execAt_rename ρ addr i s
  | error e => exact refuseUndecoded_rename ρ c.op e s

/-- The parametric step commutes with every renaming, also into another cause type. -/
theorem stepAt_rename (addr : BusAddr) (s : State C) : stepAt addr (s.rename ρ) = renameResult ρ (stepAt addr s) := by
  have hmap : (s.rename ρ).events = s.events.map (·.rename ρ) := rfl
  cases hev : s.events with
  | nil =>
    rw [hev] at hmap
    rw [stepAt, stepAt, stepWith_none hev, stepWith_none hmap, renameResult]
  | cons ev rest =>
    rw [hev] at hmap
    cases ev with
    | issue c =>
      rw [stepAt, stepAt, stepWith_issue hev, stepWith_issue hmap]
      exact runCommand_rename ρ addr c { s with events := rest }
    | answer r =>
      rw [stepAt, stepAt, stepWith_answer hev, stepWith_answer hmap]
      exact takeAnswer_rename ρ r { s with events := rest }

end

/-- Settles O51: by `stepAt_rename`, operation by operation; this machine is the parametric one at `0x12`. -/
theorem stepCommutesWithRenaming : Obligations.StepCommutesWithRenaming :=
  ⟨fun ρ s => by rw [← stepAt_devAddr, ← stepAt_devAddr, stepAt_rename], fun _ _ addr ρ s => stepAt_rename ρ addr s⟩

end Sys2Proof.Machine

/-! ### 20_memory.md: reading a frame, and placing a command -/

namespace Sys2Proof.Machine

/-- A frame word is its two bytes side by side, the byte at the lower offset on top (R54). -/
theorem frameWord_eq_append (f : Frame) (o : Nat) (h : o + 1 < 32) : frameWord f o h = f[o] ++ f[o + 1] := by
  calc frameWord f o h
    _ = (f[o] ++ f[o + 1]).setWidth 16 := BitVec.setWidth_append_eq_shiftLeft_setWidth_or.symm
    _ = f[o] ++ f[o + 1] := BitVec.setWidth_eq _

/-- The word of the machine and the spec's number for it agree (R54). -/
theorem frameWord_toNat (f : Frame) (o : Nat) (h : o + 1 < 32) : (frameWord f o h).toNat = wordValue f o h := by
  have hlow : f[o + 1].toNat < 2 ^ 8 := f[o + 1].isLt
  rw [frameWord_eq_append, BitVec.toNat_append, ← Nat.shiftLeft_add_eq_or_of_lt hlow, Nat.shiftLeft_eq, Nat.mul_comm,
    wordValue]

/-- Settles O41: the word is the two bytes appended, so its halves are the bytes and its value is their number. -/
theorem frameWordIsBigEndian : Obligations.FrameWordIsBigEndian := by
  intro f o h
  refine ⟨frameWord_toNat f o h, ?high, ?low⟩
  case high => rw [frameWord_eq_append, BitVec.extractLsb'_append_eq_left]
  case low => rw [frameWord_eq_append, BitVec.extractLsb'_append_eq_right]

/-- A table word decodes to what the decoder makes of the command its bits spell (R82, log entry 10). -/
theorem decodeTableWord_eq_some {nbits w : Nat} {i : Instr} :
    decodeTableWord nbits w = some i ↔ decode (Command.ofBits (w % 2 ^ nbits)) = .ok i := by
  unfold decodeTableWord
  cases decode (Command.ofBits (w % 2 ^ nbits)) <;> simp

/-- Settles O10: the placed command is the next event, and taking it gives back the state it was placed in. -/
theorem placedWordRunsNext : Obligations.PlacedWordRunsNext :=
  fun _ _ _ _ hword => step_of_decode rfl (decodeTableWord_eq_some.mp hword)

end Sys2Proof.Machine

/-! ### 30_encoding.md: the opcode map, the decoder and the encoder -/

namespace Sys2Proof

/-! #### The opcode map (R81) -/

/-- Every row of the map is an exact match (R82), so what it selects is the opcode of its mnemonic. -/
theorem eq_opcode_of_selects {r : OpcodeRow} {b : Byte} (hrow : r ∈ opcodeTable) (hsel : r.selects b = true) :
    b = r.op.opcode := by
  have hexact : ∀ r ∈ opcodeTable, r.mask = BitVec.allOnes 8 ∧ r.value = r.op.opcode := by decide
  obtain ⟨hmask, hvalue⟩ := hexact r hrow
  rwa [OpcodeRow.selects, hmask, hvalue, BitVec.and_allOnes, beq_iff_eq] at hsel

@[simp] theorem opOfByte_opcode (o : Op) : opOfByte o.opcode = some o := by
  cases o <;> rfl

/-- The lookup and the encoder's opcodes are inverse to each other. -/
theorem opOfByte_eq_some {b : Byte} {o : Op} : opOfByte b = some o ↔ b = o.opcode := by
  constructor
  · intro h
    obtain ⟨r, hfind, rfl⟩ := Option.map_eq_some_iff.mp h
    exact eq_opcode_of_selects (List.mem_of_find?_eq_some hfind) (List.find?_some (p := (OpcodeRow.selects · b)) hfind)
  · rintro rfl
    exact opOfByte_opcode o

/-- The assigned opcode values are the opcodes of the mnemonics. -/
theorem mem_assignedOpcodes {b : Byte} : b ∈ assignedOpcodes ↔ ∃ o, opOfByte b = some o := by
  constructor
  · have hall : ∀ b ∈ assignedOpcodes, (opOfByte b).isSome = true := by decide
    exact fun hb => Option.isSome_iff_exists.mp (hall b hb)
  · rintro ⟨o, ho⟩
    rw [opOfByte_eq_some.mp ho]
    cases o <;> decide

/-- Settles O1: the rows are the mnemonics, each beside its opcode. -/
theorem opcodeMapSelects : Obligations.OpcodeMapSelects := by
  intro b o
  rw [opOfByte_eq_some]
  cases o <;> simp [Op.opcode, extractOpcode]

/-! #### Operands and instructions (R80, R82) -/

theorem tokenOperand_error {x : Operand} {e : Reject} :
    tokenOperand x = .error e ↔ x.fits .token = false ∧ .malformedOperand = e := by
  cases x <;> simp [tokenOperand, Operand.fits]

theorem noOperand_error {x : Operand} {i : Instr} {e : Reject} :
    noOperand i x = .error e ↔ x.fits .nothing = false ∧ .malformedOperand = e := by
  cases x <;> simp [noOperand, Operand.fits]

/-- A frame operand is turned away exactly when it is not 32 bytes. -/
theorem frameOperand_error {x : Operand} {e : Reject} :
    frameOperand x = .error e ↔ x.fits .frame = false ∧ .malformedOperand = e := by
  cases x with
  | nothing => simp [frameOperand, Operand.fits]
  | token t => simp [frameOperand, Operand.fits]
  | bytes bs =>
    simp only [frameOperand, Operand.fits, Config.frameLen]
    cases hbs : Frame.ofBytes bs with
    | none => simp [Frame.ofBytes_eq_none.mp hbs]
    | some f => simp [Frame.ofBytes_eq_some.mp hbs]

theorem exceptMap_eq_ok {α β ε : Type} {f : α → β} {x : Except ε α} {b : β} :
    x.map f = .ok b ↔ ∃ a, x = .ok a ∧ f a = b := by
  cases x <;> simp [Except.map]

theorem exceptMap_eq_error {α β ε : Type} {f : α → β} {x : Except ε α} {e : ε} :
    x.map f = .error e ↔ x = .error e := by
  cases x <;> simp [Except.map]

/-- An instruction is assembled from its own mnemonic and operand. -/
theorem assembleInstr_op_operand (i : Instr) : assembleInstr i.op i.operand = .ok i := by
  cases i
  case create t => rfl
  case release => rfl
  case read => rfl
  all_goals exact exceptMap_eq_ok.mpr ⟨_, frameOperand_ok.mpr rfl, rfl⟩

/-- What is assembled has the mnemonic and the operand it was assembled from: nothing of either is lost. -/
theorem op_operand_of_assembleInstr {o : Op} {x : Operand} {i : Instr} (h : assembleInstr o x = .ok i) :
    i.op = o ∧ i.operand = x := by
  cases o
  case create =>
    obtain ⟨t, ht, rfl⟩ := exceptMap_eq_ok.mp h
    exact ⟨rfl, (tokenOperand_ok.mp ht).symm⟩
  case release =>
    obtain ⟨rfl, rfl⟩ := noOperand_ok.mp h
    exact ⟨rfl, rfl⟩
  case read =>
    obtain ⟨rfl, rfl⟩ := noOperand_ok.mp h
    exact ⟨rfl, rfl⟩
  all_goals
    obtain ⟨f, hf, rfl⟩ := exceptMap_eq_ok.mp h
    exact ⟨rfl, (frameOperand_ok.mp hf).symm⟩

/-- Assembly fails for the operand's shape alone, and never otherwise (R82). -/
theorem assembleInstr_error {o : Op} {x : Operand} {e : Reject} :
    assembleInstr o x = .error e ↔ x.fits (shapeOfOpcode o.opcode) = false ∧ .malformedOperand = e := by
  cases o
  case create => exact exceptMap_eq_error.trans tokenOperand_error
  case release => exact noOperand_error
  case read => exact noOperand_error
  all_goals exact exceptMap_eq_error.trans frameOperand_error

/-! #### The decoder (R82, R93) -/

theorem decode_of_opOfByte {c : Command} {o : Op} (h : opOfByte c.op = some o) :
    decode c = assembleInstr o c.operand := by
  rw [decode, h]

/-- A command spells an instruction exactly when it is that instruction's encoding. -/
theorem decode_eq_ok {c : Command} {i : Instr} : decode c = .ok i ↔ encode i = c := by
  constructor
  · intro h
    obtain ⟨o, ho, hi⟩ := decode_ok h
    obtain ⟨rfl, hoperand⟩ := op_operand_of_assembleInstr hi
    rw [encode, hoperand, ← opOfByte_eq_some.mp ho]
  · rintro rfl
    rw [decode_of_opOfByte (opOfByte_opcode i.op), encode, assembleInstr_op_operand]

/-- Settles O4: opcodes and mnemonics are in bijection, and assembly loses nothing of mnemonic and operand. -/
theorem decodeInvertsEncode : Obligations.DecodeInvertsEncode :=
  ⟨fun _ => decode_eq_ok.mpr rfl, fun _ _ => decode_eq_ok.mp⟩

theorem opAssigned_iff {c : Command} : c.opAssigned = true ↔ ∃ o, opOfByte c.op = some o := by
  rw [Command.opAssigned, List.contains_iff_mem, mem_assignedOpcodes]

theorem opAssigned_eq_false {c : Command} : c.opAssigned = false ↔ opOfByte c.op = none := by
  rw [← Bool.not_eq_true, opAssigned_iff, Option.eq_none_iff_forall_ne_some, not_exists]

/-- An unassigned opcode is rejected as such, and nothing else is (R93). -/
theorem decode_eq_unassigned {c : Command} :
    decode c = .error .unassignedOpcode ↔ c.opAssigned = false := by
  rw [opAssigned_eq_false]
  cases ho : opOfByte c.op with
  | none => simp [decode, ho]
  | some o => simp [decode_of_opOfByte ho, assembleInstr_error]

/-- An operand of the wrong shape is rejected as such, and nothing else is (R82). -/
theorem decode_eq_malformed {c : Command} :
    decode c = .error .malformedOperand ↔ c.opAssigned = true ∧ c.operandFits = false := by
  rw [opAssigned_iff]
  cases ho : opOfByte c.op with
  | none => simp [decode, ho]
  | some o =>
    rw [decode_of_opOfByte ho, assembleInstr_error, Command.operandFits, opOfByte_eq_some.mp ho]
    simp

/-- A command is rejected exactly when it is not well formed. -/
theorem decode_isError_iff {c : Command} : (∃ e, decode c = .error e) ↔ c.wellFormed = false := by
  rw [Command.wellFormed, Bool.and_eq_false_iff]
  constructor
  · rintro ⟨_ | _, he⟩
    · exact .inl (decode_eq_unassigned.mp he)
    · exact .inr (decode_eq_malformed.mp he).2
  · intro h
    cases ha : c.opAssigned with
    | false => exact ⟨_, decode_eq_unassigned.mpr ha⟩
    | true => exact ⟨_, decode_eq_malformed.mpr ⟨ha, by simpa [ha] using h⟩⟩

/-- A well-formed command spells an instruction of the command its opcode byte selects. -/
theorem decode_of_wellFormed {c : Command} (h : c.wellFormed = true) :
    ∃ i, decode c = .ok i ∧ opOfByte c.op = some i.op := by
  cases hd : decode c with
  | error e => simp [decode_isError_iff.mp ⟨e, hd⟩] at h
  | ok i => exact ⟨i, rfl, by rw [← decode_eq_ok.mp hd, encode, opOfByte_opcode]⟩

end Sys2Proof

namespace Sys2Proof.Machine

/-! #### The step on a command (R82, R195) -/

/-- A command that does not decode is refused, its event used up. -/
theorem step_of_decode_error {s : State} {c : Command} {e : Reject} {rest : List Event}
    (hev : s.events = .issue c :: rest) (hdec : decode c = .error e) :
    step s = refuseUndecoded c.op e { s with events := rest } := by
  rw [step_issue hev, runCommand, hdec]

/-- Settles O2: the three clauses of the decoder, and the refusal of what it rejects. -/
theorem decoderDecidesEveryCommand : Obligations.DecoderDecidesEveryCommand := by
  refine fun c => ⟨decode_eq_unassigned.mpr, fun ha hf => decode_eq_malformed.mpr ⟨ha, hf⟩, decode_of_wellFormed, ?_⟩
  intro s rest hev hwf
  obtain ⟨e, he⟩ := decode_isError_iff.mpr hwf
  obtain ⟨rs, hrs⟩ := refuseUndecoded_form c.op e { s with events := rest }
  exact ⟨_, (step_of_decode_error hev he).trans hrs⟩

/-- An unassigned opcode is refused for that alone (R93). -/
theorem step_of_unassigned {s : State} {c : Command} {rest : List Event} (hev : s.events = .issue c :: rest)
    (hop : opOfByte c.op = none) : step s = .refused (.command [.unassignedOpcode]) := by
  rw [step_of_decode_error hev (decode_eq_unassigned.mpr (opAssigned_eq_false.mpr hop)), refuseUndecoded, hop,
    reasonOfReject]

/-- A malformed operand is refused for that and for every reason that excludes its opcode in this state (R195, log
entry 7). -/
theorem step_of_malformed {s : State} {c : Command} {rest : List Event} {o : Op} (hev : s.events = .issue c :: rest)
    (hop : opOfByte c.op = some o) (hdec : decode c = .error .malformedOperand) :
    step s = .refused (.command (.malformedOperand :: sessionReasons o s)) := by
  have hreasons : sessionReasons o { s with events := rest } = sessionReasons o s := rfl
  rw [step_of_decode_error hev hdec, refuseUndecoded, hop]
  simp only [reasonOfReject, hreasons]

/-- Settles O8: each outcome of the decoder leads to its own step. -/
theorem stepRunsDecodedCommand : Obligations.StepRunsDecodedCommand := by
  intro s c rest hev
  refine ⟨fun _ => step_of_decode hev, fun hdec => ?_, fun hdec => ?_⟩
  · exact step_of_unassigned hev (opAssigned_eq_false.mp (decode_eq_unassigned.mp hdec))
  · obtain ⟨o, ho⟩ := opAssigned_iff.mp (decode_eq_malformed.mp hdec).1
    exact ⟨o, ho, step_of_malformed hev ho hdec⟩

/-- A refused event is used up and leaves the mark; the run is otherwise unchanged (R195). -/
theorem Run.step_of_refused {r : Run} {q : Refusal} (h : Machine.step r.state = .refused q) :
    r.step = ⟨{ r.state with events := r.state.events.tail }, true, r.observed⟩ := by
  simp only [Run.step, h]

/-- The ranges of R93 hold no assigned opcode. -/
theorem opOfByte_eq_none_of_unassigned {b : Byte}
    (h : b.toNat = 0x00 ∨ (0x04 ≤ b.toNat ∧ b.toNat ≤ 0x0F) ∨ (0x13 ≤ b.toNat ∧ b.toNat ≤ 0x1F) ∨
      (0x21 ≤ b.toNat ∧ b.toNat ≤ 0x2F) ∨ 0x3C ≤ b.toNat) : opOfByte b = none := by
  rw [Option.eq_none_iff_forall_ne_some]
  intro o ho
  rw [opOfByte_eq_some] at ho
  subst ho
  cases o <;> simp [Op.opcode, extractOpcode] at h

/-- Of the 256 byte values 41 below `0x3C`, and the 196 from there on, select nothing (R93). -/
theorem unassigned_count : ((List.range 256).filter fun n => (opOfByte (BitVec.ofNat 8 n)).isNone).length = 237 := by
  have hlow : ((List.range 60).filter fun n => (opOfByte (BitVec.ofNat 8 n)).isNone).length = 41 := by decide
  have hhigh : ∀ n ∈ (List.range 196).map (60 + ·), (opOfByte (BitVec.ofNat 8 n)).isNone = true := by
    intro n hn
    obtain ⟨m, hm, rfl⟩ := List.mem_map.mp hn
    have hbyte : (BitVec.ofNat 8 (60 + m)).toNat = 60 + m := Nat.mod_eq_of_lt (by simp at hm; omega)
    exact Option.isNone_iff_eq_none.mpr (opOfByte_eq_none_of_unassigned (by omega))
  rw [List.range_add (n := 60) (m := 196), List.filter_append, List.length_append, hlow,
    List.filter_eq_self.mpr hhigh, List.length_map, List.length_range]

/-- Settles O3: the lookup finds nothing in the ranges of R93, and a run uses the refused command up. -/
theorem unassignedOpcodeRefused : Obligations.UnassignedOpcodeRefused := by
  refine ⟨unassigned_count, fun op x s rest m o hop hev => ?_⟩
  have hstep : step s = .refused (.command [.unassignedOpcode]) :=
    step_of_unassigned hev (opOfByte_eq_none_of_unassigned hop)
  exact ⟨hstep, by rw [Run.step_of_refused (r := ⟨s, m, o⟩) hstep, hev, List.tail_cons]⟩

/-- Settles O7: eight closed runs of the decoder. -/
theorem sampleWordsDecode : Obligations.SampleWordsDecode := by
  unfold Obligations.SampleWordsDecode
  decide

/-- Settles O29: the codes by their table, the bound over its four rows. -/
theorem responseCodes : Obligations.ResponseCodes := by
  intro Cause
  refine ⟨fun _ => ⟨rfl, rfl⟩, fun _ => ⟨rfl, rfl⟩, ?badMagic, ?badChecksum, ?bound⟩
  case badMagic => rintro _ rfl; exact ⟨rfl, rfl⟩
  case badChecksum => rintro _ rfl; exact ⟨rfl, rfl⟩
  case bound =>
    rintro (p | c | - | -)
    all_goals simp [Response.code]

/-- Settles O30: an instruction that runs is READ's issue step or ends with its own response, and an answer ends the READ. -/
theorem oneResponsePerCommand : Obligations.OneResponsePerCommand := by
  constructor
  · intro i s s' hexec
    obtain ⟨t, rfl, -, -, rfl⟩ | ⟨rfl, -, -, rfl⟩ | ⟨rfl, -, -, rfl⟩ | ⟨hpure, e, rfl⟩ := exec_next_cases hexec
    · exact .inr ⟨nofun, _, rfl⟩
    · exact .inr ⟨nofun, _, rfl⟩
    · exact .inl ⟨rfl, rfl⟩
    · exact .inr ⟨fun hread => (nomatch hread ▸ hpure), e, rfl⟩
  · intro s s' r rest hev hstep
    rw [step_answer hev] at hstep
    obtain ⟨-, rfl⟩ := takeAnswer_next hstep
    obtain ⟨e, he⟩ := completeRead_form r { s with events := rest }
    exact ⟨e, by rw [he]; rfl⟩

end Sys2Proof.Machine

/-! #### The low nibble of an extract's opcode (R83) -/

namespace Sys2Proof.Machine

/-- A byte with high nibble 3 is `0x30` and its low nibble. -/
theorem toNat_of_high_nibble_three {b : Byte} (h : b >>> 4 = 3) : b.toNat = 0x30 + (b &&& 0x0F).toNat := by
  have hhigh : b.toNat >>> 4 = 3 := by simpa using congrArg BitVec.toNat h
  have hlow : (b &&& 0x0F).toNat = b.toNat % 16 := Nat.and_two_pow_sub_one_eq_mod b.toNat 4
  rw [Nat.shiftRight_eq_div_pow] at hhigh
  omega

theorem extractOpcode_toNat (k : Fin 12) : (extractOpcode k).toNat = 0x30 + k := by
  fin_cases k <;> rfl

/-- The extract of field `k` is spelled by the opcode of field `k` and its frame. -/
theorem encode_extractInstr (k : Fin 12) (f : Frame) :
    encode (extractInstr k f) = ⟨extractOpcode k, .bytes f.toList⟩ := by
  fin_cases k <;> rfl

/-- The extract of field `k` answers the word of field `k`, from every state (R161 to R172). -/
theorem exec_extractInstr (k : Fin 12) (f : Frame) (s : State) :
    exec (extractInstr k f) s = .next (s.respondWord (extractInstr k f) (fieldWord f k)) := by
  fin_cases k <;> rfl

/-- Settles O5: high nibble 3 makes the byte `0x30 + k`, which is the opcode of field `k`, or lies in the ranges of R93. -/
theorem lowNibbleIsFieldIndex : Obligations.LowNibbleIsFieldIndex := by
  intro b hb
  have hnibble := toNat_of_high_nibble_three hb
  refine ⟨fun k f hk => ⟨?decodes, fun s => ⟨fieldWord f k, ?word, exec_extractInstr k f s⟩⟩, fun hk x => ?unassigned⟩
  case decodes =>
    have hop : extractOpcode k = b := BitVec.eq_of_toNat_eq (by rw [extractOpcode_toNat, hnibble, hk])
    exact decode_eq_ok.mpr (hop ▸ encode_extractInstr k f)
  case word =>
    have hlow : 4 + 2 * k.val + 1 = 5 + 2 * k.val := by omega
    simp only [fieldWord, frameWord_toNat, wordValue, fieldOffset, hlow]
  case unassigned =>
    exact decode_eq_unassigned.mpr (opAssigned_eq_false.mpr (opOfByte_eq_none_of_unassigned (by dsimp only; omega)))

end Sys2Proof.Machine

/-! #### The flat form (R92) -/

namespace Sys2Proof

/-- The word a byte string makes in flat form, first byte lowest; `Frame.flat` is this on a frame's bytes. -/
def flatWord (bs : List Byte) : BitVec 256 := bs.foldr (fun b acc => acc <<< 8 ||| b.setWidth 256) 0

theorem flat_eq_flatWord (f : Frame) : f.flat = flatWord f.toList := rfl

theorem flatWord_cons (b : Byte) (bs : List Byte) :
    flatWord (b :: bs) = flatWord bs <<< 8 ||| b.setWidth 256 := rfl

/-- A byte pushed in at the bottom is the lowest byte. -/
theorem extractLsb'_zero_push (acc : BitVec 256) (b : Byte) :
    (acc <<< 8 ||| b.setWidth 256).extractLsb' 0 8 = b := by
  apply BitVec.eq_of_getLsbD_eq
  intro j hj
  simp [hj, show j < 256 by omega]

/-- A byte pushed in at the bottom moves every other byte up by one. -/
theorem extractLsb'_succ_push (acc : BitVec 256) (b : Byte) {i : Nat} (hi : i + 1 < 32) :
    (acc <<< 8 ||| b.setWidth 256).extractLsb' (8 * (i + 1)) 8 = acc.extractLsb' (8 * i) 8 := by
  apply BitVec.eq_of_getLsbD_eq
  intro j hj
  have hoff : 8 * (i + 1) + j - 8 = 8 * i + j := by omega
  have hb : b.getLsbD (8 * (i + 1) + j) = false := BitVec.getLsbD_of_ge b _ (by omega)
  simp [hj, hoff, hb, show 8 * (i + 1) + j < 256 by omega, show 8 * i + j < 256 by omega,
    show ¬ 8 * (i + 1) + j < 8 by omega]

theorem extractLsb'_flatWord {bs : List Byte} {i : Nat} (hi : i < bs.length) (h32 : i < 32) :
    (flatWord bs).extractLsb' (8 * i) 8 = bs[i] := by
  induction bs generalizing i with
  | nil => simp at hi
  | cons b bs ih =>
    rw [flatWord_cons]
    cases i with
    | zero => exact extractLsb'_zero_push _ b
    | succ i => rw [extractLsb'_succ_push _ b h32, ih (by simpa using hi) (by omega), List.getElem_cons_succ]

theorem extractLsb'_flat (f : Frame) {i : Nat} (hi : i < 32) : f.flat.extractLsb' (8 * i) 8 = f[i] :=
  extractLsb'_flatWord (bs := f.toList) (by simpa using hi) hi

theorem bytesLE_getElem (n v i : Nat) (h : i < (bytesLE n v).length) :
    (bytesLE n v)[i] = BitVec.ofNat 8 (v / 256 ^ i) := by
  induction n generalizing v i with
  | zero => simp [bytesLE] at h
  | succ n ih =>
    cases i with
    | zero => simp [bytesLE]
    | succ i => simp [bytesLE, ih, Nat.div_div_eq_div_mul, Nat.pow_succ']

/-- Byte `i` of the frame a word holds is the word's bits from `8i`. -/
theorem ofFlat_getElem (v : BitVec 256) {i : Nat} (hi : i < 32) : (Frame.ofFlat v)[i] = v.extractLsb' (8 * i) 8 := by
  have hlen : i < (bytesLE 32 v.toNat).length := by rwa [bytesLE_length]
  calc (Frame.ofFlat v)[i]
    _ = BitVec.ofNat 8 (v.toNat / 256 ^ i) := bytesLE_getElem 32 v.toNat i hlen
    _ = BitVec.ofNat 8 (v.toNat >>> (8 * i)) := by rw [Nat.shiftRight_eq_div_pow, Nat.pow_mul]

theorem ofFlat_flat (f : Frame) : Frame.ofFlat f.flat = f :=
  Vector.ext fun _ hi => (ofFlat_getElem f.flat hi).trans (extractLsb'_flat f hi)

/-- Settles O6: each byte pushed in lifts the later ones by eight bits, and reading back takes the same bits. -/
theorem flatFormHoldsEveryByte : Obligations.FlatFormHoldsEveryByte :=
  fun f => ⟨fun i => extractLsb'_flat f i.isLt, ofFlat_flat f⟩

end Sys2Proof

/-! #### The checksum's sum, and the bytes that are only summed (R88, R143, R144) -/

namespace Sys2Proof.Machine

/-- The accumulator counts the numbers of the bytes, modulo 65536. -/
theorem foldl_sumStep_toNat (bs : List Byte) (acc : Word) :
    (bs.foldl sumStep acc).toNat = (acc.toNat + (bs.map BitVec.toNat).sum) % 65536 := by
  induction bs generalizing acc with
  | nil => simp [Nat.mod_eq_of_lt acc.isLt]
  | cons b bs ih =>
    simp [ih, sumStep, zext16]
    omega

/-- Thirty bytes sum to at most 7650. -/
theorem byteSum_le (f : Frame) : byteSum f ≤ 7650 := by
  have hbyte : ∀ n ∈ (f.toList.take 30).map BitVec.toNat, n ≤ 255 := by
    intro n hn
    obtain ⟨b, -, rfl⟩ := List.mem_map.mp hn
    exact Nat.le_of_lt_succ b.isLt
  have h := List.sum_le_card_nsmul _ 255 hbyte
  simpa [byteSum] using h

/-- The accumulator never wraps, so it holds the exact sum (R144). -/
theorem sum16_toNat (f : Frame) : (sum16 f).toNat = byteSum f := by
  calc (sum16 f).toNat
    _ = (0 + byteSum f) % 65536 := foldl_sumStep_toNat _ 0
    _ = byteSum f := by have hle := byteSum_le f; omega

/-- The summed bytes by their offsets. -/
theorem byteSum_eq_sum (f : Frame) : byteSum f = ∑ i : Fin 30, f[i.val].toNat := by
  have htake : f.toList.take 30 = List.ofFn fun i : Fin 30 => f[i.val] :=
    List.ext_getElem (by simp) fun i _ _ => by rw [List.getElem_take, List.getElem_ofFn, Vector.getElem_toList]
  rw [byteSum, htake, List.map_ofFn, List.sum_ofFn]
  rfl

/-- The offsets of the length field and of the reserved bytes (R88). -/
def unusedOffsets : Finset (Fin 30) := {2, 3, 28, 29}

theorem mem_unusedOffsets {i : Fin 30} :
    i ∈ unusedOffsets ↔ i.val = 2 ∨ i.val = 3 ∨ i.val = 28 ∨ i.val = 29 := by
  simp [unusedOffsets, Fin.ext_iff]

theorem sum_unusedOffsets (f : Frame) :
    ∑ i ∈ unusedOffsets, f[i.val].toNat = f[2].toNat + (f[3].toNat + (f[28].toNat + f[29].toNat)) := by
  simp [unusedOffsets]

/-- Frames that agree outside the unused bytes differ in their sums by those bytes alone. -/
theorem byteSum_add_unused {f g : Frame} (h : ∀ i : Fin 30, i ∉ unusedOffsets → f[i.val] = g[i.val]) :
    byteSum f + ∑ i ∈ unusedOffsets, g[i.val].toNat = byteSum g + ∑ i ∈ unusedOffsets, f[i.val].toNat := by
  have hrest : ∑ i ∈ unusedOffsetsᶜ, f[i.val].toNat = ∑ i ∈ unusedOffsetsᶜ, g[i.val].toNat :=
    Finset.sum_congr rfl fun i hi => by rw [h i (Finset.mem_compl.mp hi)]
  rw [byteSum_eq_sum, byteSum_eq_sum, ← Finset.sum_add_sum_compl unusedOffsets,
    ← Finset.sum_add_sum_compl unusedOffsets fun i : Fin 30 => g[i.val].toNat, hrest]
  omega

/-- The fields of a frame are its bytes at offsets 4 to 27 (R86). -/
theorem decodeFrame_congr {f g : Frame} (h : ∀ i (hi : i < 32), 4 ≤ i → i < 28 → f[i] = g[i]) :
    decodeFrame f = decodeFrame g := by
  have hfield : fieldWord f = fieldWord g := by
    funext k
    have hk := k.isLt
    simp only [fieldWord, frameWord_eq_append, fieldOffset]
    rw [h _ _ (by omega) (by omega), h _ _ (by omega) (by omega)]
  rw [decodeFrame, hfield, decodeFrame]

theorem syncOK_iff {f : Frame} : syncOK f = true ↔ HasMarker f := by
  simp [syncOK, frameByte, Config.sync0, Config.sync1, HasMarker]

theorem validate_eq_ok {f : Frame} : validate f = .ok ↔ syncOK f = true ∧ sumOK f = true := by
  unfold validate
  cases syncOK f <;> cases sumOK f <;> simp

/-- The sum sees the first thirty bytes alone (R143). -/
theorem sum16_joinFrame (p : Vector Byte 30) (t : Vector Byte 2) : sum16 (joinFrame p t) = p.toList.foldl sumStep 0 := by
  rw [sum16, joinFrame_toList, Config.sumLen, List.take_left' p.length_toList]

theorem checksumField_joinFrame (p : Vector Byte 30) (t : Vector Byte 2) :
    checksumField (joinFrame p t) = t[0] ++ t[1] := by
  simp [checksumField, frameWord_eq_append, joinFrame_getElem]

/-- A word is its two bytes, high byte first. -/
theorem highByte_append_lowByte (w : Word) : (w >>> 8).setWidth 8 ++ w.setWidth 8 = w := by
  have hlow : (w.setWidth 8).toNat < 2 ^ 8 := (w.setWidth 8).isLt
  apply BitVec.eq_of_toNat_eq
  rw [BitVec.toNat_append, ← Nat.shiftLeft_add_eq_or_of_lt hlow]
  simp [Nat.shiftLeft_eq, Nat.shiftRight_eq_div_pow]
  omega

/-- The two checksum bytes are the halves of the sum, high byte first (R87). -/
theorem checksum16_append (p : Vector Byte 30) :
    (checksum16 p)[0] ++ (checksum16 p)[1] = sum16 (joinFrame p #v[0, 0]) :=
  highByte_append_lowByte _

/-- Thirty bytes with their checksum appended pass the checksum (R87, R147). -/
theorem sumOK_appendChecksum (p : Vector Byte 30) : sumOK (appendChecksum p) = true := by
  rw [sumOK, beq_iff_eq, appendChecksum, checksumField_joinFrame, checksum16_append, sum16_joinFrame, sum16_joinFrame]

/-- Below offset 30 an appended checksum changes nothing. -/
theorem appendChecksum_framePrefix_getElem (f : Frame) {i : Nat} (hi : i < 30) :
    (appendChecksum (framePrefix f))[i] = f[i] := by
  simp [appendChecksum, joinFrame_getElem, hi, framePrefix]

/-- Settles O46: the four offsets lie outside the fields and the marker and inside the sum, and thirty bytes
with a right marker become a valid frame by their checksum. -/
theorem unusedBytesAreOnlySummed : Obligations.UnusedBytesAreOnlySummed := by
  refine ⟨fun f g h => ?agree, fun f hmarker => ⟨appendChecksum (framePrefix f), ?valid, ?kept⟩⟩
  case agree =>
    have hbyte : ∀ i (hi : i < 32), i ≠ 2 → i ≠ 3 → i ≠ 28 → i ≠ 29 → f[i] = g[i] := fun i hi => h ⟨i, hi⟩
    refine ⟨decodeFrame_congr fun i hi _ _ => hbyte i hi ?_ ?_ ?_ ?_, ?marker, ?sum⟩
    case marker =>
      have h0 : f[0] = g[0] := hbyte 0 (by omega) (by omega) (by omega) (by omega) (by omega)
      have h1 : f[1] = g[1] := hbyte 1 (by omega) (by omega) (by omega) (by omega) (by omega)
      simp only [syncOK, frameByte, h0, h1]
    case sum =>
      have hsum := byteSum_add_unused (f := f) (g := g) fun i hi => by
        rw [mem_unusedOffsets] at hi
        exact hbyte i (by omega) (by omega) (by omega) (by omega) (by omega)
      rw [sum_unusedOffsets, sum_unusedOffsets] at hsum
      rw [sum16_toNat, sum16_toNat]
      omega
    all_goals omega
  case valid =>
    refine validate_eq_ok.mpr ⟨syncOK_iff.mpr ?_, sumOK_appendChecksum _⟩
    rwa [HasMarker, appendChecksum_framePrefix_getElem f (by omega), appendChecksum_framePrefix_getElem f (by omega)]
  case kept => exact fun i hi => appendChecksum_framePrefix_getElem f hi

end Sys2Proof.Machine

/-! ### 40_session.md: CREATE, RELEASE and READ -/

namespace Sys2Proof.Machine

/-! #### Refusals of the session commands (R195) -/

section

variable {Cause : Type} {o : Op} {s : State Cause}

/-- An attempt is refused for the session's reasons, listed. -/
theorem attempt_of_cons {s' : State Cause} {r : Reason} {rs : List Reason} (h : sessionReasons o s = r :: rs) :
    attempt o s s' = .refused (.command (r :: rs)) := by
  rw [attempt, h]

/-- Without a session RELEASE and READ have `NotActive` against them, before anything else. -/
theorem sessionReasons_of_inactive (ho : o = .release ∨ o = .read) (hlife : s.inst.life ≠ .active) :
    ∃ rs, sessionReasons o s = .notActive :: rs := by
  obtain rfl | rfl := ho
  · simp [sessionReasons, excludes, hlife]
  · simp [sessionReasons, excludes, hlife]

/-- In a session with a READ in flight RELEASE and READ have that alone against them. -/
theorem sessionReasons_of_waiting (ho : o = .release ∨ o = .read) (hlife : s.inst.life = .active)
    (hphase : s.inst.phase ≠ .idle) : sessionReasons o s = [.readInFlight] := by
  have hwait : s.inst.phase = .waitTransport := by
    cases hp : s.inst.phase with
    | idle => exact absurd hp hphase
    | waitTransport => rfl
  obtain rfl | rfl := ho
  · simp [sessionReasons, excludes, hlife, hwait]
  · simp [sessionReasons, excludes, hlife, hwait]

end

/-! #### CREATE (R110) and RELEASE (R111) -/

/-- RELEASE on an idle active instance closes the session and hands its token back (R111, R195). -/
theorem exec_release_of_active {s : State} (hlife : s.inst.life = .active) (hphase : s.inst.phase = .idle) :
    exec .release s = .next (s.closeSession.respond .release (.ok (.ofTransport s.inst.transport))) :=
  attempt_of_nil (sessionReasons_release.mpr ⟨hlife, hphase⟩)

/-- Settles O11: `life` and `phase` decide between the effect and the reasons against it. -/
theorem createOpensSession : Obligations.CreateOpensSession := by
  intro t s
  refine ⟨rfl, fun hlife hphase => ?opened, fun hlife hphase => ?active, fun hlife hphase => ?both,
    fun hlife hphase => ?waiting⟩
  case opened => exact (execAt_devAddr _ s).symm.trans (execAt_create_of_inactive hlife hphase)
  all_goals
    exact attempt_of_cons (by simp [sessionReasons, excludes, hlife, hphase])

/-- Settles O12: the free value for `dev_addr` is the one drawn, and the payload is the token held, if any. -/
theorem releaseHandsBackTransport : Obligations.ReleaseHandsBackTransport := by
  intro s
  refine ⟨rfl, fun hlife => ?inactive, fun hlife hphase => ?waiting, fun hlife hphase =>
    ⟨Config.unspecifiedDevAddr s.draws, .ofTransport s.inst.transport, ?released, ?token, ?noToken⟩⟩
  case inactive =>
    obtain ⟨rs, hrs⟩ := sessionReasons_of_inactive (.inl rfl) hlife
    exact ⟨rs, attempt_of_cons hrs⟩
  case waiting => exact attempt_of_cons (sessionReasons_of_waiting (.inl rfl) hlife hphase)
  case released =>
    rw [exec_release_of_active hlife hphase, ← hphase]
    rfl
  case token => exact fun t ht => by rw [ht, Payload.ofTransport]
  case noToken => exact fun ht => by rw [ht, Payload.ofTransport]

/-! #### The frame a READ is answered with (R140, R160) -/

/-- The checksum check compares the sum of the first thirty bytes with the number in the last two (R87, R142). -/
theorem sumOK_iff {f : Frame} : sumOK f = true ↔ HasChecksum f := by
  have hle := byteSum_le f
  have hsum : byteSum f % 65536 = byteSum f := Nat.mod_eq_of_lt (by omega)
  rw [sumOK, beq_iff_eq, ← BitVec.toNat_inj, sum16_toNat, checksumField, frameWord_toNat, HasChecksum, hsum]
  exact eq_comm

theorem validate_of_noMarker {f : Frame} (hmarker : ¬ HasMarker f) : validate f = .badMagic := by
  simp [validate, syncOK_iff, hmarker]

theorem validate_of_badChecksum {f : Frame} (hmarker : HasMarker f) (hsum : ¬ HasChecksum f) :
    validate f = .badChecksum := by
  simp [validate, syncOK_iff, sumOK_iff, hmarker, hsum]

theorem validate_of_valid {f : Frame} (hmarker : HasMarker f) (hsum : HasChecksum f) : validate f = .ok :=
  validate_eq_ok.mpr ⟨syncOK_iff.mpr hmarker, sumOK_iff.mpr hsum⟩

/-- Word `k` of a decoded frame is the number at its two offsets (R86). -/
theorem decodeFrame_toNat (f : Frame) (k : Fin 12) :
    (decodeFrame f)[k].toNat = wordValue f (fieldOffset k) (fieldOffset_fits k) := by
  rw [decodeFrame, Fin.getElem_fin, Vector.getElem_ofFn]
  exact frameWord_toNat f _ _

/-- The Reading of a frame has the words R86 gives. -/
theorem Reading.ofWords_decodeFrame_readFrom (f : Frame) : (Reading.ofWords (decodeFrame f)).ReadFrom f :=
  have hword := decodeFrame_toNat f
  ⟨hword 0, hword 1, hword 2, hword 3, hword 4, hword 5, hword 6, hword 7, hword 8, hword 9, hword 10, hword 11⟩

/-! #### READ's response, a function of the answer (R112, R116 to R118) -/

section

variable {Cause : Type}

/-- The response to a verdict (R140); `State.respondVerdict_eq` ties it to the machine. -/
def Verdict.response : Verdict → Response Cause
  | .ok => .ok .none
  | .badMagic => .error .badMagic
  | .badChecksum => .error .badChecksum

theorem State.respondVerdict_eq (s : State Cause) (i : Instr) (v : Verdict) :
    s.respondVerdict i v = s.respond i v.response := by
  cases v <;> rfl

/-- The response of a READ to its frame (R112); `completeRead_eq` ties it to the machine. -/
def frameResponse (b : Frame) : Response Cause :=
  match validate b with
  | .ok => .ok (.reading (.ofWords (decodeFrame b)))
  | .badMagic => .error .badMagic
  | .badChecksum => .error .badChecksum

/-- The response of a READ to the transport's answer (R112); `completeRead_eq` ties it to the machine. -/
def readResponse : Answer Cause → Response Cause
  | .err c => .error (.transportError c)
  | .ok b => frameResponse b

theorem finishRead_eq (s : State Cause) : finishRead s = s.endRead.respond .read (frameResponse s.bufferedFrame) := by
  unfold finishRead frameResponse
  cases validate s.bufferedFrame <;> rfl

theorem completeRead_eq (r : Answer Cause) (s : State Cause) :
    completeRead r s = s.endRead.respond .read (readResponse r) := by
  cases r with
  | err c => rfl
  | ok b => exact finishRead_eq (s.fillFrame b)

end

/-- A waiting READ takes its answer, discards the buffer and responds to that answer (R112, R115). -/
theorem step_answer_response {s : State} {r : Answer} {rest : List Event} (hev : s.events = .answer r :: rest)
    (hphase : s.inst.phase = .waitTransport) :
    step s = .next (({ s with events := rest } : State).endRead.respond .read (readResponse r)) := by
  rw [step_answer hev, takeAnswer, hphase, completeRead_eq]

/-- READ's issue step on an idle active instance (R112, R114). -/
theorem exec_read_of_active {s : State} (hlife : s.inst.life = .active) (hphase : s.inst.phase = .idle) :
    exec .read s = .next (((s.fillFrame Frame.zero).setPhase .waitTransport).busRead Config.frameLen) :=
  (execAt_devAddr .read s).symm.trans (execAt_read_of_active hlife hphase)

/-- Settles O13: the issue step by `exec_read_of_active`, the completion step by `readResponse` of each answer. -/
theorem readIssuesThenCompletes : Obligations.ReadIssuesThenCompletes := by
  refine ⟨rfl, fun s hlife => ?inactive, fun s hlife hphase => ?waiting, fun s hlife hphase => ?issue,
    fun s r rest hphase hev => ⟨readResponse r, step_answer_response hev hphase, ?error, ?marker, ?checksum, ?valid⟩⟩
  case inactive =>
    obtain ⟨rs, hrs⟩ := sessionReasons_of_inactive (.inr rfl) hlife
    exact ⟨rs, attempt_of_cons hrs⟩
  case waiting => exact attempt_of_cons (sessionReasons_of_waiting (.inr rfl) hlife hphase)
  case issue => exact exec_read_of_active hlife hphase
  case error => rintro c rfl; rfl
  case marker =>
    rintro b rfl hmarker
    rw [readResponse, frameResponse, validate_of_noMarker hmarker]
  case checksum =>
    rintro b rfl hmarker hsum
    rw [readResponse, frameResponse, validate_of_badChecksum hmarker hsum]
  case valid =>
    rintro b rfl hmarker hsum
    exact ⟨_, by rw [readResponse, frameResponse, validate_of_valid hmarker hsum],
      Reading.ofWords_decodeFrame_readFrom b⟩

/-- Settles O17: the completion does not read the buffer on an error. -/
theorem transportErrorPassesThrough : Obligations.TransportErrorPassesThrough :=
  fun s _ _ hphase hev buffer =>
    ⟨step_answer_response (s := { s with inst := { s.inst with frame := buffer } }) hev hphase, rfl, rfl⟩

/-- Settles O18: VALIDATE and READ turn the same verdict into a response, the same one unless the frame is valid. -/
theorem validatorErrorPassesThrough : Obligations.ValidatorErrorPassesThrough := by
  intro s s' b e rest hphase hev hexec hresp
  have hnext : s' = s.respond (.validate b) (validate b).response := by
    rw [← State.respondVerdict_eq]
    cases hexec
    rfl
  have herror : (validate b).response = .error e := by simpa [hnext] using hresp
  have hread : frameResponse b = .error e := by
    unfold frameResponse
    cases hv : validate b with
    | ok => rw [hv] at herror; cases herror
    | badMagic => rwa [hv] at herror
    | badChecksum => rwa [hv] at herror
  exact ⟨_, step_answer_response hev hphase, by rw [readResponse, hread]; rfl⟩

/-- Settles O16: the fill is one write of the buffer. -/
theorem fillReplacesEveryByte : Obligations.FillReplacesEveryByte :=
  fun _ b => ⟨⟨b, rfl, fun _ => rfl⟩, rfl⟩

/-- Settles O9: the two kinds of step that run no command, and the answer that no READ waits for. -/
theorem stepTakesAnswersAndWaits : Obligations.StepTakesAnswersAndWaits := by
  refine fun s => ⟨step_none, fun r rest hev hphase => ?taken, fun r rest hev hphase => ?stray⟩
  case taken => rw [step_answer hev, takeAnswer, hphase]
  case stray => rw [step_answer hev, takeAnswer, hphase]

/-! #### Bus requests (R113, R114) -/

/-- A step that takes another instruction takes no READ. -/
theorem decode_ne_read {s : State} {c : Command} {i : Instr} {rest : List Event} (hev : s.events = .issue c :: rest)
    (hdec : decode c = .ok i) (hi : i ≠ .read) :
    ∀ c' rest', s.events = .issue c' :: rest' → decode c' ≠ .ok .read :=
  fun _ _ hev' hdec' => hi (decoded_unique hev hdec hev' hdec')

/-- Settles O14: of the transitions only READ's issue step makes a request, and only an answer ends a READ. -/
theorem oneRequestPerRead : Obligations.OneRequestPerRead := by
  intro s s' hstep
  cases StepEffect.of_step hstep with
  | noEvent hev => exact ⟨.inr ⟨by simp [hev], rfl⟩, by simp⟩
  | create hev hdec hlife hphase => exact ⟨.inr ⟨decode_ne_read hev hdec nofun, rfl⟩, by simp⟩
  | release hev hdec hlife hphase => exact ⟨.inr ⟨decode_ne_read hev hdec nofun, rfl⟩, by simp⟩
  | read hev hdec hlife hphase => exact ⟨.inl ⟨_, _, hev, hdec, rfl, rfl⟩, by simp⟩
  | @pure _ _ i _ hev hdec hpure =>
    have hread : i ≠ .read := by rintro rfl; cases hpure
    exact ⟨.inr ⟨decode_ne_read hev hdec hread, rfl⟩, by simp [hread]⟩
  | answer e hev hphase => exact ⟨.inr ⟨by simp [hev], rfl⟩, fun _ _ => ⟨_, _, hev⟩⟩

/-- Settles O15: an active instance owns a token and has the address of R7, and the issue step keeps what the invariant
says of the requests. -/
theorem readAsksTheSensorFor32Bytes : Obligations.ReadAsksTheSensorFor32Bytes := by
  intro s hinv hlife hphase
  obtain ⟨tok, htok⟩ := Option.isSome_iff_exists.mp (hinv.owns_iff.mpr hlife)
  refine ⟨tok, _, htok, exec_read_of_active hlife hphase, ?new,
    (hinv.issueRead hlife hphase).request⟩
  case new => simp [htok, hinv.address hlife, Config.devAddr, Config.frameLen]

/-! #### Pure commands (R120, R237) -/

/-- Settles O48: the response of a check is that of its verdict, and of a decoding command the words of its frame. -/
theorem pureCommandsOnlyRespond : Obligations.PureCommandsOnlyRespond := by
  intro i hpure
  cases i with
  | create t => cases hpure
  | release => cases hpure
  | read => cases hpure
  | validate f => exact ⟨_, fun s => congrArg _ (s.respondVerdict_eq _ _)⟩
  | chksync f => exact ⟨_, fun s => congrArg _ (s.respondVerdict_eq _ _)⟩
  | chksum f => exact ⟨_, fun s => congrArg _ (s.respondVerdict_eq _ _)⟩
  | decode f => exact ⟨_, fun _ => rfl⟩
  | decPm1 f | decPm2_5 f | decPm10 f | decEnvPm1 f | decEnvPm2_5 f | decEnvPm10 f
  | decPc0_3 f | decPc0_5 f | decPc1 f | decPc2_5 f | decPc5 f | decPc10 f => exact ⟨_, fun _ => rfl⟩

end Sys2Proof.Machine

/-! ### 41_validator.md: VALIDATE, CHKSYNC and CHKSUM -/

namespace Sys2Proof.Machine

/-! #### The three commands answer with a verdict (R140, R141, R142) -/

/-- VALIDATE responds by its verdict and changes nothing else (R140). -/
theorem exec_validate (f : Frame) (s : State) :
    exec (.validate f) s = .next (s.respond (.validate f) (validate f).response) :=
  congrArg _ (s.respondVerdict_eq _ _)

/-- CHKSYNC responds by the marker check and changes nothing else (R141). -/
theorem exec_chksync (f : Frame) (s : State) :
    exec (.chksync f) s =
      .next (s.respond (.chksync f) (if syncOK f then Verdict.ok else .badMagic).response) :=
  congrArg _ (s.respondVerdict_eq _ _)

/-- CHKSUM responds by the checksum check and changes nothing else (R142). -/
theorem exec_chksum (f : Frame) (s : State) :
    exec (.chksum f) s =
      .next (s.respond (.chksum f) (if sumOK f then Verdict.ok else .badChecksum).response) :=
  congrArg _ (s.respondVerdict_eq _ _)

/-- Settles O34: each clause is one branch of `validate`. -/
theorem validateChecksInOrder : Obligations.ValidateChecksInOrder := by
  refine fun f s => ⟨rfl, _, exec_validate f s, fun hmarker => ?magic, fun hmarker hsum => ?checksum,
    fun hmarker hsum => ?ok⟩
  case magic => rw [validate_of_noMarker hmarker, Verdict.response]
  case checksum => rw [validate_of_badChecksum hmarker hsum, Verdict.response]
  case ok => rw [validate_of_valid hmarker hsum, Verdict.response]

/-- Settles O35: the verdict branches on `syncOK` alone. -/
theorem chksyncChecksMarkerAlone : Obligations.ChksyncChecksMarkerAlone := by
  refine fun f s => ⟨rfl, _, exec_chksync f s, fun hmarker => ?ok, fun hmarker => ?magic⟩
  case ok => rw [if_pos (syncOK_iff.mpr hmarker), Verdict.response]
  case magic => rw [if_neg (mt syncOK_iff.mp hmarker), Verdict.response]

/-- Settles O36: the verdict branches on `sumOK` alone. -/
theorem chksumChecksSumAlone : Obligations.ChksumChecksSumAlone := by
  refine fun f s => ⟨rfl, _, exec_chksum f s, fun hsum => ?ok, fun hsum => ?checksum⟩
  case ok => rw [if_pos (sumOK_iff.mpr hsum), Verdict.response]
  case checksum => rw [if_neg (mt sumOK_iff.mp hsum), Verdict.response]

/-! #### The sum of a frame and its range (R143, R144) -/

/-- Settles O37: the accumulator starts at 0 and counts the bytes modulo 65536. -/
theorem sumIsByteSumModulo : Obligations.SumIsByteSumModulo := fun f => by
  calc (sum16 f).toNat
    _ = (0 + byteSum f) % 65536 := foldl_sumStep_toNat _ 0
    _ = byteSum f % 65536 := by rw [Nat.zero_add]

/-- The two marker bytes and the 28 bytes after them make up the sum. -/
theorem byteSum_eq_marker_add_rest (f : Frame) :
    byteSum f = f[0].toNat + (f[1].toNat + ∑ i : Fin 28, f[i.val + 2].toNat) := by
  rw [byteSum_eq_sum, Fin.sum_univ_succ, Fin.sum_univ_succ]
  rfl

/-- With a valid marker the sum lies from 143 to 143 + 28 * 255 (R144). -/
theorem byteSum_range_of_marker {f : Frame} (hmarker : HasMarker f) : 0x008F ≤ byteSum f ∧ byteSum f ≤ 0x1C73 := by
  obtain ⟨h0, h1⟩ := hmarker
  have hsum := byteSum_eq_marker_add_rest f
  simp only [h0, h1, BitVec.reduceToNat] at hsum
  have hrest : ∑ i : Fin 28, f[i.val + 2].toNat ≤ Fintype.card (Fin 28) • 255 :=
    Finset.sum_le_card_nsmul Finset.univ _ 255 fun i _ => Nat.le_of_lt_succ f[i.val + 2].isLt
  rw [Fintype.card_fin, smul_eq_mul] at hrest
  omega

/-- The checksum of a frame is the exact sum, since the sum never wraps (R144). -/
theorem hasChecksum_iff {f : Frame} : HasChecksum f ↔ wordValue f 30 = byteSum f := by
  have hle := byteSum_le f
  rw [HasChecksum, Nat.mod_eq_of_lt (by omega)]

/-- Settles O38: a passing checksum field is the exact sum, so it has the sum's range. -/
theorem sumNeverWraps : Obligations.SumNeverWraps := by
  refine fun f => ⟨sum16_toNat f, byteSum_le f, fun hmarker => ?range, fun hmarker hout => ?outside⟩
  case range => rw [sum16_toNat]; exact byteSum_range_of_marker hmarker
  case outside =>
    have hrange := byteSum_range_of_marker hmarker
    have hno : ¬ HasChecksum f := fun hsum => by
      have heq := hasChecksum_iff.mp hsum
      omega
    exact ⟨hno, Bool.eq_false_iff.mpr (mt sumOK_iff.mp hno)⟩

/-! #### The checksum of thirty bytes (R147) -/

/-- A frame is its first thirty bytes followed by its last two. -/
@[simp] theorem joinFrame_framePrefix (f : Frame) : joinFrame (framePrefix f) (frameChecksumBytes f) = f := by
  apply Vector.ext
  intro i hi
  rw [joinFrame_getElem]
  split
  case isTrue h30 => simp [framePrefix]
  case isFalse h30 =>
    obtain rfl | rfl : i = 30 ∨ i = 31 := by omega
    · rfl
    · rfl

/-- Two bytes are determined by the word they form. -/
theorem append_bytes_inj {t u : Vector Byte 2} : t[0] ++ t[1] = u[0] ++ u[1] ↔ t = u := by
  refine ⟨fun h => Vector.ext fun i hi => ?byte, fun h => by rw [h]⟩
  case byte =>
    obtain rfl | rfl : i = 0 ∨ i = 1 := by omega
    · simpa only [BitVec.extractLsb'_append_eq_left] using congrArg (·.extractLsb' 8 8) h
    · simpa only [BitVec.extractLsb'_append_eq_right] using congrArg (·.extractLsb' 0 8) h

/-- After thirty bytes only their checksum passes the checksum check (R87, R142). -/
theorem sumOK_joinFrame {p : Vector Byte 30} {t : Vector Byte 2} : sumOK (joinFrame p t) = true ↔ t = checksum16 p := by
  have hsum : sum16 (joinFrame p t) = (checksum16 p)[0] ++ (checksum16 p)[1] := by
    rw [checksum16_append, sum16_joinFrame, sum16_joinFrame]
  rw [sumOK, beq_iff_eq, hsum, checksumField_joinFrame, append_bytes_inj, eq_comm]

/-- Settles O39: the marker survives the appending, and the last two bytes that pass are the checksum's. -/
theorem checksumRoundTrip : Obligations.ChecksumRoundTrip := by
  refine ⟨fun p h0 h1 => ?built, fun f => ?converse⟩
  case built =>
    have hmarker : HasMarker (appendChecksum p) := by
      simp [HasMarker, appendChecksum, joinFrame_getElem, h0, h1]
    exact validate_eq_ok.mpr ⟨syncOK_iff.mpr hmarker, sumOK_appendChecksum p⟩
  case converse =>
    have hsum := sumOK_joinFrame (p := framePrefix f) (t := frameChecksumBytes f)
    rw [joinFrame_framePrefix] at hsum
    rw [validate_eq_ok, syncOK_iff, hsum]

/-! #### What the checksum cannot see (R148) -/

/-- The order of the summed bytes does not matter. -/
theorem byteSum_eq_of_perm {f g : Frame} (h : (f.toList.take 30).Perm (g.toList.take 30)) : byteSum f = byteSum g :=
  (h.map BitVec.toNat).sum_eq

/-- Settles O40: the check compares the last two bytes with the total of the others. -/
theorem checksumSeesOnlyTheTotal : Obligations.ChecksumSeesOnlyTheTotal := by
  intro f g hf h30 h31
  have hpass : byteSum f = byteSum g → sumOK g = true := fun htotal => by
    rw [sumOK_iff, HasChecksum, wordValue, ← h30, ← h31, ← htotal]
    exact sumOK_iff.mp hf
  exact ⟨hpass, fun hperm => hpass (byteSum_eq_of_perm hperm)⟩

end Sys2Proof.Machine

/-! ### 42_decoder.md: DECODE and the single-field extracts -/

namespace Sys2Proof.Machine

/-! #### The words a frame is answered with (R160 to R172) -/

/-- The FieldWords of a frame have the words R86 gives. -/
theorem FieldWords.ofWords_decodeFrame_readFrom (f : Frame) : (FieldWords.ofWords (decodeFrame f)).ReadFrom f :=
  have hword := decodeFrame_toNat f
  ⟨hword 0, hword 1, hword 2, hword 3, hword 4, hword 5, hword 6, hword 7, hword 8, hword 9, hword 10, hword 11⟩

/-- DECODE responds with the words of its frame and changes nothing else (R160). -/
theorem exec_decode (f : Frame) (s : State) :
    exec (.decode f) s = .next (s.respond (.decode f) (.ok (.fieldWords (.ofWords (decodeFrame f))))) := rfl

/-- Settles O42: DECODE asks nothing of its frame, and its twelve words are the frame's. -/
theorem decodeAnswersTwelveWords : Obligations.DecodeAnswersTwelveWords :=
  fun f s => ⟨rfl, _, FieldWords.ofWords_decodeFrame_readFrom f, exec_decode f s⟩

/-- The extract of field `k` has the opcode of field `k` and answers the word at that field's offset (R83, R161 to R172). -/
theorem extractsWord_extractInstr (k : Fin 12) :
    ExtractsWord (extractInstr k) (extractOpcode k) (fieldOffset k) (fieldOffset_fits k) :=
  fun f s => ⟨by rw [encode_extractInstr], fieldWord f k, frameWord_toNat f _ _, exec_extractInstr k f s⟩

/-- Settles O43: the mass extracts are those of fields 0 to 5. -/
theorem massExtractsAnswerTheirWord : Obligations.MassExtractsAnswerTheirWord :=
  ⟨extractsWord_extractInstr 0, extractsWord_extractInstr 1, extractsWord_extractInstr 2,
    extractsWord_extractInstr 3, extractsWord_extractInstr 4, extractsWord_extractInstr 5⟩

/-- Settles O44: the count extracts are those of fields 6 to 11. -/
theorem countExtractsAnswerTheirWord : Obligations.CountExtractsAnswerTheirWord :=
  ⟨extractsWord_extractInstr 6, extractsWord_extractInstr 7, extractsWord_extractInstr 8,
    extractsWord_extractInstr 9, extractsWord_extractInstr 10, extractsWord_extractInstr 11⟩

/-! #### What the decoder sees of a frame (R175) -/

/-- Equal words have equal bytes (R54). -/
theorem bytes_eq_of_frameWord_eq {f g : Frame} {o : Nat} {h : o + 1 < 32} (hword : frameWord f o h = frameWord g o h) :
    f[o] = g[o] ∧ f[o + 1] = g[o + 1] := by
  obtain ⟨-, hfhigh, hflow⟩ := frameWordIsBigEndian f o h
  obtain ⟨-, hghigh, hglow⟩ := frameWordIsBigEndian g o h
  exact ⟨by rw [← hfhigh, ← hghigh, hword], by rw [← hflow, ← hglow, hword]⟩

theorem fieldWord_eq_of_decodeFrame_eq {f g : Frame} (h : decodeFrame f = decodeFrame g) (k : Fin 12) :
    fieldWord f k = fieldWord g k := by
  simpa [decodeFrame] using congrArg (·[k]) h

/-- Every offset from 4 to 27 is the high or the low byte of a field (R86). -/
theorem exists_field_of_offset {i : Nat} (hlow : 4 ≤ i) (hhigh : i < 28) :
    ∃ k : Fin 12, i = fieldOffset k ∨ i = fieldOffset k + 1 :=
  ⟨⟨(i - 4) / 2, by omega⟩, by simp only [fieldOffset]; omega⟩

/-- Settles O45: each offset from 4 to 27 is a byte of some field, and a field's word gives back its bytes. -/
theorem decodeSeesExactlyTheFieldBytes : Obligations.DecodeSeesExactlyTheFieldBytes := by
  refine fun f g => ⟨?sees, fun h => decodeFrame_congr fun i hi => h ⟨i, hi⟩⟩
  case sees =>
    rintro h ⟨i, hi⟩ hlow hhigh
    obtain ⟨k, hk⟩ := exists_field_of_offset hlow hhigh
    obtain ⟨hfirst, hsecond⟩ := bytes_eq_of_frameWord_eq (fieldWord_eq_of_decodeFrame_eq h k)
    obtain rfl | rfl := hk
    · exact hfirst
    · exact hsecond

/-! #### Where a Reading comes from (R27, R174) -/

theorem Verdict.response_ne_reading {Cause : Type} (v : Verdict) (rd : Reading) :
    (v.response : Response Cause) ≠ .ok (.reading rd) := by
  cases v <;> nofun

/-- No payload that hands a transport back is a Reading. -/
theorem Payload.ofTransport_ne_reading {Cause : Type} (t : Option Token) (rd : Reading) :
    (Payload.ofTransport t : Payload Cause) ≠ .reading rd := by
  cases t <;> nofun

/-- A pure command answers one response, which is not a Reading: DECODE's words are FieldWords (R27). -/
theorem exec_pure_ne_reading {i : Instr} {s s' : State} (hpure : isPure i = true) (h : exec i s = .next s') :
    ∃ e, s' = s.respond i e ∧ ∀ rd, e ≠ .ok (.reading rd) := by
  cases i with
  | create t => cases hpure
  | release => cases hpure
  | read => cases hpure
  | validate f => exact ⟨_, Host.Outcome.next.inj (h.symm.trans (exec_validate f s)), Verdict.response_ne_reading _⟩
  | chksync f => exact ⟨_, Host.Outcome.next.inj (h.symm.trans (exec_chksync f s)), Verdict.response_ne_reading _⟩
  | chksum f => exact ⟨_, Host.Outcome.next.inj (h.symm.trans (exec_chksum f s)), Verdict.response_ne_reading _⟩
  | decode f => cases h; exact ⟨_, rfl, nofun⟩
  | decPm1 f | decPm2_5 f | decPm10 f | decEnvPm1 f | decEnvPm2_5 f | decEnvPm10 f
  | decPc0_3 f | decPc0_5 f | decPc1 f | decPc2_5 f | decPc5 f | decPc10 f => cases h; exact ⟨_, rfl, nofun⟩

/-- No instruction answers a Reading by itself; only the transport's answer ends a READ. -/
theorem exec_responses_ne_reading {i cmd : Instr} {s s' : State} {rd : Reading} (h : exec i s = .next s') :
    s'.responses ≠ s.responses ++ [⟨cmd, .ok (.reading rd)⟩] := by
  obtain ⟨t, -, -, -, rfl⟩ | ⟨-, -, -, rfl⟩ | ⟨-, -, -, rfl⟩ | ⟨hpure, -⟩ := exec_next_cases h
  · simp
  · simp [Payload.ofTransport_ne_reading]
  · simp
  · obtain ⟨e, rfl, he⟩ := exec_pure_ne_reading hpure h
    simp [he]

/-- READ responds with a Reading only to a frame that passed both checks, and it is that frame's (R112, R140). -/
theorem readResponse_eq_reading {Cause : Type} {r : Answer Cause} {rd : Reading}
    (h : readResponse r = .ok (.reading rd)) :
    ∃ f, r = .ok f ∧ validate f = .ok ∧ rd = .ofWords (decodeFrame f) := by
  cases r with
  | err c => cases h
  | ok f =>
    rw [readResponse, frameResponse] at h
    cases hv : validate f with
    | ok => rw [hv] at h; cases h; exact ⟨f, rfl, hv, rfl⟩
    | badMagic => rw [hv] at h; cases h
    | badChecksum => rw [hv] at h; cases h

/-- Settles O47: neither a step without an event nor an instruction answers a Reading, and READ's answer must be valid. -/
theorem readingOnlyFromValidatedFrame : Obligations.ReadingOnlyFromValidatedFrame := by
  intro s s' cmd rd hstep hresp
  obtain ⟨-, rfl⟩ | ⟨c, i, rest, -, -, hexec⟩ | ⟨r, rest, hev, hphase, rfl⟩ := step_next_cases hstep
  · simp at hresp
  · exact (exec_responses_ne_reading hexec hresp).elim
  · rw [completeRead_eq] at hresp
    obtain ⟨rfl, hread⟩ : Instr.read = cmd ∧ readResponse r = .ok (.reading rd) := by simpa using hresp
    obtain ⟨f, rfl, hvalid, rfl⟩ := readResponse_eq_reading hread
    obtain ⟨hmarker, hsum⟩ := validate_eq_ok.mp hvalid
    exact ⟨rfl, hphase, f, rest, hev, syncOK_iff.mp hmarker, sumOK_iff.mp hsum, Reading.ofWords_decodeFrame_readFrom f⟩

end Sys2Proof.Machine

/-! ### 60_exceptions.md: refusals, errors, and the READ that is never answered -/

namespace Sys2Proof.Machine

/-! #### A READ in flight that is never answered (R208) -/

/-- `s'` differs from `s` by commands taken and pure commands ended alone, and no answer is to come. -/
structure StillWaiting (s s' : State) : Prop where
  inst : s'.inst = s.inst
  requests : s'.requests = s.requests
  reads : s'.responses.filter Ended.isRead = s.responses.filter Ended.isRead
  noAnswer : ∀ a, Event.answer a ∉ s'.events

/-- Of the transitions only a pure command's, and the step without an event, are open to a READ that is not answered. -/
theorem StillWaiting.step {s t t' : State} (hphase : s.inst.phase = .waitTransport) (h : StillWaiting s t)
    (hstep : step t = .next t') : StillWaiting s t' := by
  have hwait : t.inst.phase ≠ .idle := by simp [h.inst, hphase]
  cases StepEffect.of_step hstep with
  | noEvent hev => exact h
  | create hev hdec hlife hidle => exact absurd hidle hwait
  | release hev hdec hlife hidle => exact absurd hidle hwait
  | read hev hdec hlife hidle => exact absurd hidle hwait
  | pure e hev hdec hpure =>
    obtain ⟨-, -, hread⟩ := isPure_iff.mp hpure
    exact ⟨h.inst, h.requests, by simp [hread, h.reads], fun a ha => h.noAnswer a (hev ▸ List.mem_cons_of_mem _ ha)⟩
  | @answer r rest e hev hwaiting => exact absurd (hev ▸ List.mem_cons_self) (h.noAnswer r)

/-- The host sends pure commands alone, and no answer comes. -/
def PureEvents (es : List Event) : Prop := ∀ ev ∈ es, ∃ c i, ev = .issue c ∧ decode c = .ok i ∧ isPure i = true

/-- A step uses up an event that is a pure command, whatever the instance (R120, R237). -/
theorem step_of_pureEvents {s : State} (h : PureEvents s.events) :
    ∃ t, step s = .next t ∧ t.events = s.events.tail := by
  cases hev : s.events with
  | nil => exact ⟨s, step_none hev, hev⟩
  | cons ev rest =>
    obtain ⟨c, i, rfl, hdec, hpure⟩ := h ev (hev ▸ List.mem_cons_self)
    obtain ⟨e, hexec⟩ := pureCommandsOnlyRespond i hpure
    exact ⟨_, (step_of_decode hev hdec).trans (hexec _), rfl⟩

theorem core_run_of_pureEvents {s : State} (n : Nat) (h : PureEvents s.events) :
    ∃ s', Sys2Proof.core.run n s = .next s' ∧ s'.events = s.events.drop n := by
  induction n generalizing s with
  | zero => exact ⟨s, core_run_zero s, rfl⟩
  | succ n ih =>
    obtain ⟨t, hstep, hevents⟩ := step_of_pureEvents h
    obtain ⟨s', hrun, hdrop⟩ := ih (s := t) (hevents ▸ fun ev hmem => h ev (List.mem_of_mem_tail hmem))
    exact ⟨s', (core_run_succ n hstep).trans hrun, by rw [hdrop, hevents, List.drop_tail]⟩

/-- Settles O32: along a run the READ is still waiting, and pure commands are taken in every state. -/
theorem unansweredReadWaitsForever : Obligations.UnansweredReadWaitsForever := by
  intro n s hphase hnoAnswer
  refine ⟨fun s' hrun => ?waits, fun hcommands => ?taken, fun i => exec_refused_of_waiting hphase⟩
  case waits =>
    have h : StillWaiting s s' :=
      core_run_keeps (StillWaiting s) (fun _ _ => .step hphase) n s s' ⟨rfl, rfl, rfl, hnoAnswer⟩ hrun
    exact ⟨h.inst, h.requests, h.reads⟩
  case taken =>
    refine core_run_of_pureEvents n fun ev hmem => ?_
    cases ev with
    | issue c =>
      obtain ⟨i, hdec, hpure⟩ := hcommands c hmem
      exact ⟨c, i, rfl, hdec, hpure⟩
    | answer a => exact absurd hmem (hnoAnswer a)

/-! #### Why a command is refused (R195) -/

/-- The rows of R195's table about a command's form. -/
def formReasons (c : Command) : List Reason :=
  match decode c with
  | .ok _ => []
  | .error e => [reasonOfReject e]

/-- The rows of R195's table about the instance's state, for the command that the opcode byte selects. -/
def stateReasons (op : Byte) (s : State) : List Reason := (opOfByte op).elim [] (sessionReasons · s)

/-- Every row of R195's table that applies to a command; `step_of_commandReasons_nil` and
`step_of_commandReasons_ne_nil` tie them to the machine. -/
def commandReasons (c : Command) (s : State) : List Reason := formReasons c ++ stateReasons c.op s

theorem mem_commandReasons {c : Command} {s : State} {r : Reason} :
    r ∈ commandReasons c s ↔
      (∃ e, decode c = .error e ∧ r = reasonOfReject e) ∨ ∃ o : Op, c.op = o.opcode ∧ excludes o s r = true := by
  have hform : r ∈ formReasons c ↔ ∃ e, decode c = .error e ∧ r = reasonOfReject e := by
    unfold formReasons
    cases decode c <;> simp
  have hstate : r ∈ stateReasons c.op s ↔ ∃ o : Op, c.op = o.opcode ∧ excludes o s r = true := by
    simp only [stateReasons, ← opOfByte_eq_some]
    cases opOfByte c.op <;> simp [mem_sessionReasons]
  rw [commandReasons, List.mem_append, hform, hstate]

theorem commandReasons_of_decode {c : Command} {i : Instr} {s : State} (h : decode c = .ok i) :
    commandReasons c s = sessionReasons i.op s := by
  have hop : opOfByte c.op = some i.op := by rw [← decode_eq_ok.mp h, encode, opOfByte_opcode]
  rw [commandReasons, formReasons, h, stateReasons, hop, Option.elim_some, List.nil_append]

theorem commandReasons_of_decode_error {c : Command} {e : Reject} {s : State} (h : decode c = .error e) :
    commandReasons c s = reasonOfReject e :: stateReasons c.op s := by
  rw [commandReasons, formReasons, h, List.singleton_append]

theorem refuseUndecoded_eq (op : Byte) (e : Reject) (s : State) :
    refuseUndecoded op e s = .refused (.command (reasonOfReject e :: stateReasons op s)) := by
  unfold refuseUndecoded stateReasons
  cases opOfByte op <;> rfl

/-- No state is against a pure command (R120, R195). -/
theorem sessionReasons_of_isPure {i : Instr} {s : State} (hpure : isPure i = true) : sessionReasons i.op s = [] := by
  obtain ⟨hcreate, hrelease, hread⟩ := isPure_iff.mp hpure
  simp [sessionReasons, excludes, hcreate, hrelease, hread]

theorem exec_of_sessionReasons_nil {i : Instr} {s : State} (h : sessionReasons i.op s = []) :
    ∃ s', exec i s = .next s' := by
  cases hpure : isPure i with
  | true =>
    obtain ⟨e, hexec⟩ := pureCommandsOnlyRespond i hpure
    exact ⟨_, hexec s⟩
  | false =>
    obtain ⟨t, rfl⟩ | rfl | rfl := not_isPure_iff.mp hpure
    · exact ⟨_, attempt_of_nil h⟩
    · exact ⟨_, attempt_of_nil h⟩
    · exact ⟨_, attempt_of_nil h⟩

theorem exec_of_sessionReasons_ne_nil {i : Instr} {s : State} (h : sessionReasons i.op s ≠ []) :
    exec i s = .refused (.command (sessionReasons i.op s)) := by
  have hpure : isPure i = false := Bool.eq_false_iff.mpr (mt sessionReasons_of_isPure h)
  obtain ⟨t, rfl⟩ | rfl | rfl := not_isPure_iff.mp hpure
  · exact attempt_of_ne_nil h
  · exact attempt_of_ne_nil h
  · exact attempt_of_ne_nil h

theorem step_of_commandReasons_nil {s : State} {c : Command} {rest : List Event} (hev : s.events = .issue c :: rest)
    (h : commandReasons c s = []) : ∃ s', step s = .next s' := by
  cases hdec : decode c with
  | ok i =>
    rw [step_of_decode hev hdec]
    exact exec_of_sessionReasons_nil ((commandReasons_of_decode hdec).symm.trans h)
  | error e => simp [commandReasons_of_decode_error hdec] at h

theorem step_of_commandReasons_ne_nil {s : State} {c : Command} {rest : List Event} (hev : s.events = .issue c :: rest)
    (h : commandReasons c s ≠ []) : step s = .refused (.command (commandReasons c s)) := by
  cases hdec : decode c with
  | ok i =>
    rw [commandReasons_of_decode hdec] at h ⊢
    rw [step_of_decode hev hdec]
    exact exec_of_sessionReasons_ne_nil h
  | error e =>
    rw [step_of_decode_error hev hdec, refuseUndecoded_eq, commandReasons_of_decode_error hdec]
    rfl

/-- A row about a command's form applies exactly when the decoder rejects the command for it. -/
theorem reasonOfReject_mem_commandReasons {c : Command} {s : State} {e : Reject} :
    reasonOfReject e ∈ commandReasons c s ↔ decode c = .error e := by
  have hinj : ∀ e', reasonOfReject e = reasonOfReject e' ↔ e = e' := by
    intro e'
    cases e <;> cases e' <;> simp [reasonOfReject]
  have hform : ∀ o, excludes o s (reasonOfReject e) = false := by
    cases e <;> exact fun _ => rfl
  simp [mem_commandReasons, hinj, hform]

/-- A row about the instance's state applies exactly when it excludes the command that the opcode selects. -/
theorem mem_commandReasons_of_state_row {c : Command} {s : State} {r : Reason} (hrow : ∀ e, r ≠ reasonOfReject e) :
    r ∈ commandReasons c s ↔ ∃ o : Op, c.op = o.opcode ∧ excludes o s r = true := by
  simp [mem_commandReasons, hrow]

theorem alreadyActive_mem_commandReasons {c : Command} {s : State} :
    .alreadyActive ∈ commandReasons c s ↔ c.op = Op.create.opcode ∧ s.inst.life = .active := by
  rw [mem_commandReasons_of_state_row (by rintro (_ | _) <;> nofun)]
  simp [excludes]

theorem notActive_mem_commandReasons {c : Command} {s : State} :
    .notActive ∈ commandReasons c s ↔
      (c.op = Op.release.opcode ∨ c.op = Op.read.opcode) ∧ s.inst.life ≠ .active := by
  rw [mem_commandReasons_of_state_row (by rintro (_ | _) <;> nofun)]
  simp [excludes, or_and_right, and_or_left, exists_or]

theorem readInFlight_mem_commandReasons {c : Command} {s : State} :
    .readInFlight ∈ commandReasons c s ↔
      (c.op = Op.create.opcode ∨ c.op = Op.release.opcode ∨ c.op = Op.read.opcode) ∧ s.inst.phase = .waitTransport := by
  rw [mem_commandReasons_of_state_row (by rintro (_ | _) <;> nofun)]
  simp [excludes, or_and_right, and_or_left, exists_or, or_assoc]

/-- Settles O26: the reasons are `commandReasons`, row by row, and the step is refused for them or answers. -/
theorem refusedExactlyWhen : Obligations.RefusedExactlyWhen := by
  intro s c rest hev
  refine ⟨commandReasons c s, (reasonOfReject_mem_commandReasons (e := .unassignedOpcode)).trans decode_eq_unassigned,
    (reasonOfReject_mem_commandReasons (e := .malformedOperand)).trans decode_eq_malformed,
    alreadyActive_mem_commandReasons, notActive_mem_commandReasons, readInFlight_mem_commandReasons,
    step_of_commandReasons_nil hev, fun h => ?refused⟩
  case refused =>
    have hstep := step_of_commandReasons_ne_nil hev h
    exact ⟨hstep, fun m o => by rw [Run.step_of_refused (r := ⟨s, m, o⟩) hstep, hev, List.tail_cons]⟩

/-! #### The refusal mark (R195, R239) -/

/-- A step of a run never clears the mark: it keeps it, or sets it. -/
theorem Run.step_refusalMark {r : Run} (h : r.refusalMark = true) : r.step.refusalMark = true := by
  unfold Run.step
  split
  · exact h
  · rfl
  · nomatch ‹Fault›

theorem Run.steps_refusalMark {r : Run} (n : Nat) (h : r.refusalMark = true) : (Run.steps n r).refusalMark = true := by
  induction n generalizing r with
  | zero => exact h
  | succ n ih => exact ih (Run.step_refusalMark h)

theorem Run.observation_of_refusalMark {r : Run} (h : r.refusalMark = true) : r.observation = none := by
  simp [Run.observation, h]

/-- Settles O27: every step keeps the mark, and a marked run has no observation. -/
theorem refusalMarkStays : Obligations.RefusalMarkStays := fun n _ h =>
  have hmark := Run.steps_refusalMark n h
  ⟨hmark, Run.observation_of_refusalMark hmark⟩

/-! #### Where an error comes from, and what it changes (R191, R197) -/

section

variable {Cause : Type} {addr : BusAddr}

/-- A verdict's response is an error only for the check that failed. -/
theorem Verdict.response_eq_error {v : Verdict} {e : Error Cause} (h : v.response = .error e) :
    (v = .badMagic ∧ e = .badMagic) ∨ (v = .badChecksum ∧ e = .badChecksum) := by
  cases v with
  | ok => cases h
  | badMagic => cases h; exact .inl ⟨rfl, rfl⟩
  | badChecksum => cases h; exact .inr ⟨rfl, rfl⟩

/-- A READ answers the transport's own cause, or the error of a check on the frame it was given (R116 to R118). -/
theorem readResponse_eq_error {r : Answer Cause} {e : Error Cause} (h : readResponse r = .error e) :
    (∃ c, r = .err c ∧ e = .transportError c) ∨ ∃ b, r = .ok b ∧ (e = .badMagic ∨ e = .badChecksum) := by
  cases r with
  | err c => cases h; exact .inl ⟨c, rfl, rfl⟩
  | ok b =>
    refine .inr ⟨b, rfl, ?_⟩
    rw [readResponse, frameResponse] at h
    cases hv : validate b with
    | ok => rw [hv] at h; cases h
    | badMagic => rw [hv] at h; cases h; exact .inl rfl
    | badChecksum => rw [hv] at h; cases h; exact .inr rfl

/-- A pure command ends with one response, which is an error only for the three checking commands, each with the error of
a check it makes (R140 to R142). -/
theorem execAt_of_isPure {i : Instr} (hpure : isPure i = true) :
    ∃ r : Response Cause, (∀ s, execAt addr i s = .next (s.respond i r)) ∧ ∀ e, r = .error e →
      (e = .badMagic ∧ (i.op = .validate ∨ i.op = .chksync)) ∨
      (e = .badChecksum ∧ (i.op = .validate ∨ i.op = .chksum)) := by
  cases i with
  | create t => cases hpure
  | release => cases hpure
  | read => cases hpure
  | validate f =>
    refine ⟨_, fun s => congrArg _ (s.respondVerdict_eq _ (validate f)), fun e he => ?_⟩
    exact (Verdict.response_eq_error he).imp (fun h => ⟨h.2, .inl rfl⟩) (fun h => ⟨h.2, .inl rfl⟩)
  | chksync f =>
    refine ⟨_, fun s => congrArg _ (s.respondVerdict_eq _ (if syncOK f then .ok else .badMagic)), fun e he => .inl ?_⟩
    obtain ⟨-, rfl⟩ | ⟨hv, -⟩ := Verdict.response_eq_error he
    · exact ⟨rfl, .inr rfl⟩
    · split at hv <;> cases hv
  | chksum f =>
    refine ⟨_, fun s => congrArg _ (s.respondVerdict_eq _ (if sumOK f then .ok else .badChecksum)), fun e he => .inr ?_⟩
    obtain ⟨hv, -⟩ | ⟨-, rfl⟩ := Verdict.response_eq_error he
    · split at hv <;> cases hv
    · exact ⟨rfl, .inr rfl⟩
  | decode f => exact ⟨_, fun _ => rfl, nofun⟩
  | decPm1 f | decPm2_5 f | decPm10 f | decEnvPm1 f | decEnvPm2_5 f | decEnvPm10 f
  | decPc0_3 f | decPc0_5 f | decPc1 f | decPc2_5 f | decPc5 f | decPc10 f => exact ⟨_, fun _ => rfl, nofun⟩

/-- An instruction that answers an error is a checking command, and the error is that of a check it makes (R191). -/
theorem execAt_error {i cmd : Instr} {s s' : State Cause} {e : Error Cause} (h : execAt addr i s = .next s')
    (hresp : s'.responses = s.responses ++ [⟨cmd, .error e⟩]) :
    (e = .badMagic ∧ (cmd.op = .validate ∨ cmd.op = .chksync)) ∨
    (e = .badChecksum ∧ (cmd.op = .validate ∨ cmd.op = .chksum)) := by
  obtain ⟨t, -, -, -, rfl⟩ | ⟨-, -, -, rfl⟩ | ⟨-, -, -, rfl⟩ | ⟨hpure, -⟩ := execAt_next_cases h
  · simp at hresp
  · simp at hresp
  · simp at hresp
  · obtain ⟨r, hexec, herror⟩ := execAt_of_isPure (Cause := Cause) (addr := addr) hpure
    obtain rfl : s.respond i r = s' := Host.Outcome.next.inj ((hexec s).symm.trans h)
    obtain ⟨rfl, hr⟩ : i = cmd ∧ r = .error e := by simpa using hresp
    exact herror e hr

end

/-- Settles O53: an error is answered by an instruction that checks a frame, or by the READ that an answer ends. -/
theorem errorsAreTheClosedSet : Obligations.ErrorsAreTheClosedSet := by
  intro Cause addr s s' cmd e hstep hresp
  obtain ⟨-, rfl⟩ | ⟨c, i, rest, -, -, hexec⟩ | ⟨r, rest, hev, -, rfl⟩ := stepWith_next_cases hstep
  · simp at hresp
  · obtain ⟨he, hop⟩ | ⟨he, hop⟩ := execAt_error hexec hresp
    · exact .inr (.inl ⟨he, .inr hop⟩)
    · exact .inr (.inr ⟨he, .inr hop⟩)
  · rw [completeRead_eq] at hresp
    obtain ⟨rfl, hread⟩ : Instr.read = cmd ∧ readResponse r = .error e := by simpa using hresp
    obtain ⟨c, rfl, he⟩ | ⟨b, -, he | he⟩ := readResponse_eq_error hread
    · exact .inl ⟨c, rest, he, rfl, hev⟩
    · exact .inr (.inl ⟨he, .inl rfl⟩)
    · exact .inr (.inr ⟨he, .inl rfl⟩)

/-- An error's payload is the cause of a transport error, or nothing: no Reading (R84, R197). -/
theorem Response.payload_error_ne_reading {Cause : Type} (e : Error Cause) (rd : Reading) :
    (Response.error e).payload ≠ .reading rd := by
  cases e <;> nofun

/-- When READ's response is an error, its payload is a cause exactly when that is the transport's answer (R117, R118). -/
theorem answer_eq_err_iff {Cause : Type} {r : Answer Cause} {e : Error Cause} (h : readResponse r = .error e) (c : Cause) :
    r = .err c ↔ (Response.error e).payload = .cause c := by
  obtain ⟨c', rfl, rfl⟩ | ⟨b, rfl, rfl | rfl⟩ := readResponse_eq_error h
  · simp [Response.payload]
  · simp [Response.payload]
  · simp [Response.payload]

/-- Settles O31: READ's completion is `State.endRead` and its response, and a pure command's effect is its response. -/
theorem errorReturnIsPrecise : Obligations.ErrorReturnIsPrecise := by
  constructor
  · intro s s' r rest e hev hstep hresp
    obtain ⟨-, rfl⟩ := takeAnswer_next ((step_answer hev).symm.trans hstep)
    rw [completeRead_eq] at hresp ⊢
    have hread : readResponse r = .error e := by simpa using hresp
    exact ⟨rfl, rfl, rfl, rfl, Response.payload_error_ne_reading e, answer_eq_err_iff hread⟩
  · intro i s s' e hpure hexec _
    obtain ⟨r, hnext⟩ := pureCommandsOnlyRespond i hpure
    obtain rfl := Host.Outcome.next.inj ((hnext s).symm.trans hexec)
    exact ⟨rfl, rfl, rfl, rfl⟩

end Sys2Proof.Machine

/-! ### 70_reset_and_hazards.md: before the first CREATE, after RELEASE, one READ at a time, and what a run observes -/

namespace Sys2Proof.Machine

/-! #### No session: before the first CREATE and after RELEASE (R231, R236) -/

/-- On an idle instance without a session RELEASE and READ are refused as `NotActive` alone (R195). -/
theorem exec_of_idle_inactive {i : Instr} {s : State} (hi : i = .release ∨ i = .read) (hlife : s.inst.life ≠ .active)
    (hphase : s.inst.phase = .idle) : exec i s = .refused (.command [.notActive]) := by
  obtain rfl | rfl := hi
  · exact attempt_of_cons (by simp [sessionReasons, excludes, hlife, hphase])
  · exact attempt_of_cons (by simp [sessionReasons, excludes, hlife, hphase])

/-- Settles O25: the reset instance is idle without a session, so nothing is against CREATE, or against a pure command. -/
theorem beforeFirstCreate : Obligations.BeforeFirstCreate := by
  refine ⟨rfl, rfl, rfl, rfl, ?read, ?release, fun i hread hrelease => exec_of_sessionReasons_nil ?others⟩
  case read => exact exec_of_idle_inactive (.inr rfl) nofun rfl
  case release => exact exec_of_idle_inactive (.inl rfl) nofun rfl
  case others =>
    cases hpure : isPure i with
    | true => exact sessionReasons_of_isPure hpure
    | false =>
      obtain ⟨t, rfl⟩ | rfl | rfl := not_isPure_iff.mp hpure
      · exact sessionReasons_create.mpr ⟨nofun, rfl⟩
      · exact absurd rfl hrelease
      · exact absurd rfl hread

/-- Settles O33: RELEASE runs only when idle and leaves the session released, and only CREATE and RELEASE write
`life` (`onlyCreateAndReleaseWriteLife`). -/
theorem noUseAfterRelease : Obligations.NoUseAfterRelease := by
  constructor
  · intro s s' hexec
    obtain ⟨-, hphase, rfl⟩ := execRelease_next hexec
    exact ⟨rfl, exec_of_idle_inactive (.inr rfl) nofun hphase, exec_of_idle_inactive (.inl rfl) nofun hphase⟩
  · intro s s' hreleased hstep
    obtain ⟨c, rest, t, hev, hdec, -⟩ | ⟨-, -, -, -, hclosed⟩ | ⟨-, hkept⟩ := onlyCreateAndReleaseWriteLife.1 s s' hstep
    · exact .inr ⟨c, rest, t, hev, hdec⟩
    · exact .inl hclosed
    · exact .inl (hkept.trans hreleased)

/-! #### One READ at a time (R235), and the commands beside it (R237) -/

/-- Settles O52: the row `ReadInFlight` applies to the three session commands, so the step is refused, and a run drops the
refused event. -/
theorem oneReadAtATime : Obligations.OneReadAtATime := by
  intro s c i rest hphase hev hdec hop
  have hmem : .readInFlight ∈ sessionReasons i.op { s with events := rest } :=
    mem_sessionReasons.mpr (by simpa [excludes, hphase, or_assoc] using hop)
  have hstep := (step_of_decode hev hdec).trans (exec_of_sessionReasons_ne_nil (List.ne_nil_of_mem hmem))
  exact ⟨_, hstep, hmem, fun m o => by rw [Run.step_of_refused (r := ⟨s, m, o⟩) hstep, hev, List.tail_cons]⟩

/-- Settles O49: the response is `readResponse` of the answer. -/
theorem readResponseIsFunctionOfAnswer : Obligations.ReadResponseIsFunctionOfAnswer := fun r =>
  ⟨readResponse r, fun _ _ hphase hev => ⟨_, step_answer_response hev hphase, rfl⟩⟩

theorem core_run_two {s t u : State} (h₁ : step s = .next t) (h₂ : step t = .next u) :
    Sys2Proof.core.run 2 s = .next u :=
  (core_run_succ 1 h₁).trans (core_run_succ 0 h₂)

/-- Settles O50: a pure command only responds, to its operand alone, and the end of a READ responds to the answer alone. -/
theorem pureCommandCommutesWithAnswer : Obligations.PureCommandCommutesWithAnswer := by
  intro s c i r rest hphase hdec hpure
  obtain ⟨e, hexec⟩ := pureCommandsOnlyRespond i hpure
  have hcommand (t : State) (es : List Event) (hev : t.events = .issue c :: es) :
      step t = .next (({ t with events := es } : State).respond i e) :=
    (step_of_decode hev hdec).trans (hexec _)
  refine ⟨_, _, e, readResponse r,
    core_run_two (hcommand { s with events := .issue c :: .answer r :: rest } _ rfl) (step_answer_response rfl hphase),
    core_run_two (step_answer_response (s := { s with events := .answer r :: .issue c :: rest }) rfl hphase)
      (hcommand _ _ rfl),
    rfl, rfl, rfl, rfl, rfl, ?_, ?_⟩
  · simp
  · simp

/-! #### The observation of a run (R239) -/

theorem responses_prefix_of_step {s s' : State} (h : step s = .next s') : s.responses <+: s'.responses := by
  cases StepEffect.of_step h with
  | noEvent => exact List.prefix_rfl
  | create => exact List.prefix_append _ _
  | release => exact List.prefix_append _ _
  | read => exact List.prefix_rfl
  | pure => exact List.prefix_append _ _
  | answer => exact List.prefix_append _ _

theorem responses_append_newlyEnded {s s' : State} (h : s.responses <+: s'.responses) :
    s.responses ++ (newlyEnded s s').map Prod.fst = s'.responses := by
  obtain ⟨added, hadded⟩ := h
  simp [newlyEnded, ← hadded, Function.comp_def]

theorem Run.step_of_next {r : Run} {s' : State} (h : Machine.step r.state = .next s') :
    r.step = ⟨s', r.refusalMark, r.observed ++ newlyEnded r.state s'⟩ := by
  simp only [Run.step, h]

/-- The run has observed every response after those of `before`, in their order. -/
def Run.HasObserved (before : List Ended) (r : Run) : Prop := r.state.responses = before ++ r.observed.map Prod.fst

theorem Run.HasObserved.step {before : List Ended} {r : Run} (h : r.HasObserved before) : r.step.HasObserved before := by
  unfold Run.HasObserved at h ⊢
  cases hstep : Machine.step r.state with
  | next s' =>
    rw [Run.step_of_next hstep, List.map_append, ← List.append_assoc, ← h]
    exact (responses_append_newlyEnded (responses_prefix_of_step hstep)).symm
  | fault f => nomatch f
  | refused q => rwa [Run.step_of_refused hstep]

theorem Run.HasObserved.steps {before : List Ended} {r : Run} (n : Nat) (h : r.HasObserved before) :
    (Run.steps n r).HasObserved before := by
  induction n generalizing r with
  | zero => exact h
  | succ n ih => exact ih h.step

/-- Settles O28: at the start nothing is observed, and every step observes what it adds. -/
theorem runObservesEveryResponse : Obligations.RunObservesEveryResponse := fun n s =>
  Run.HasObserved.steps (r := Run.start s) n (List.append_nil s.responses).symm

end Sys2Proof.Machine
